-- ==== Sys2Proof/Word.lean ====
section
/-! DEFINITION. The widths of the machine (00_scope.md R6, R7): a byte has 8 bits, an address and the program counter
have 16. Text is a list of characters, so that the assembler is plain structural recursion. -/

namespace Sys2Proof

/-- `u8`: a register, a memory byte, an operand byte (R7). -/
abbrev Byte := BitVec 8

/-- `u16`: an address or a program counter (R7). -/
abbrev Word := BitVec 16

/-- Source text, label names and formatted text. -/
abbrev Text := List Char

end Sys2Proof
end

