-- ==== Sys2Proof/Syntax.lean ====
section
/-! DEFINITION. The instruction set as syntax: the addressing modes of R82, the mnemonics of R274, and one
constructor of `Instr` for every row of spec/opcode_table.json (30_encoding.md R97, R98). Operands are the fields
the encodings carry: a byte for the 2-byte formats, the little-endian word for the 3-byte format (R80). -/

namespace Sys2Proof

/-- The 13 addressing modes (30_encoding.md R82). -/
inductive Mode where
  | imp | acc | imm | zp | zpx | zpy | abs | absx | absy | ind | indx | indy | rel
  deriving DecidableEq, Repr

/-- The length in bytes of an instruction in the mode (R82). -/
def Mode.length : Mode → Nat
  | .imp | .acc => 1
  | .imm | .zp | .zpx | .zpy | .indx | .indy | .rel => 2
  | .abs | .absx | .absy | .ind => 3

/-- The 56 documented mnemonics (49_assembler.md R274). The pseudo-op has none (R274). -/
inductive Mnemonic where
  | adc | and | asl | bcc | bcs | beq | bit | bmi | bne | bpl | brk | bvc | bvs | clc
  | cld | cli | clv | cmp | cpx | cpy | dec | dex | dey | eor | inc | inx | iny | jmp
  | jsr | lda | ldx | ldy | lsr | nop | ora | pha | php | pla | plp | rol | ror | rti
  | rts | sbc | sec | sed | sei | sta | stx | sty | tax | tay | tsx | txa | txs | tya
  deriving DecidableEq, Repr

/-- The mnemonic as the assembler and the disassembler spell it (R274, R291). -/
def Mnemonic.name : Mnemonic → Text
  | .adc => ['A', 'D', 'C']
  | .and => ['A', 'N', 'D']
  | .asl => ['A', 'S', 'L']
  | .bcc => ['B', 'C', 'C']
  | .bcs => ['B', 'C', 'S']
  | .beq => ['B', 'E', 'Q']
  | .bit => ['B', 'I', 'T']
  | .bmi => ['B', 'M', 'I']
  | .bne => ['B', 'N', 'E']
  | .bpl => ['B', 'P', 'L']
  | .brk => ['B', 'R', 'K']
  | .bvc => ['B', 'V', 'C']
  | .bvs => ['B', 'V', 'S']
  | .clc => ['C', 'L', 'C']
  | .cld => ['C', 'L', 'D']
  | .cli => ['C', 'L', 'I']
  | .clv => ['C', 'L', 'V']
  | .cmp => ['C', 'M', 'P']
  | .cpx => ['C', 'P', 'X']
  | .cpy => ['C', 'P', 'Y']
  | .dec => ['D', 'E', 'C']
  | .dex => ['D', 'E', 'X']
  | .dey => ['D', 'E', 'Y']
  | .eor => ['E', 'O', 'R']
  | .inc => ['I', 'N', 'C']
  | .inx => ['I', 'N', 'X']
  | .iny => ['I', 'N', 'Y']
  | .jmp => ['J', 'M', 'P']
  | .jsr => ['J', 'S', 'R']
  | .lda => ['L', 'D', 'A']
  | .ldx => ['L', 'D', 'X']
  | .ldy => ['L', 'D', 'Y']
  | .lsr => ['L', 'S', 'R']
  | .nop => ['N', 'O', 'P']
  | .ora => ['O', 'R', 'A']
  | .pha => ['P', 'H', 'A']
  | .php => ['P', 'H', 'P']
  | .pla => ['P', 'L', 'A']
  | .plp => ['P', 'L', 'P']
  | .rol => ['R', 'O', 'L']
  | .ror => ['R', 'O', 'R']
  | .rti => ['R', 'T', 'I']
  | .rts => ['R', 'T', 'S']
  | .sbc => ['S', 'B', 'C']
  | .sec => ['S', 'E', 'C']
  | .sed => ['S', 'E', 'D']
  | .sei => ['S', 'E', 'I']
  | .sta => ['S', 'T', 'A']
  | .stx => ['S', 'T', 'X']
  | .sty => ['S', 'T', 'Y']
  | .tax => ['T', 'A', 'X']
  | .tay => ['T', 'A', 'Y']
  | .tsx => ['T', 'S', 'X']
  | .txa => ['T', 'X', 'A']
  | .txs => ['T', 'X', 'S']
  | .tya => ['T', 'Y', 'A']

/-- The mnemonics in alphabetical order (R274). -/
def Mnemonic.all : List Mnemonic :=
  [.adc, .and, .asl, .bcc, .bcs, .beq, .bit, .bmi, .bne, .bpl, .brk, .bvc, .bvs, .clc,
   .cld, .cli, .clv, .cmp, .cpx, .cpy, .dec, .dex, .dey, .eor, .inc, .inx, .iny, .jmp,
   .jsr, .lda, .ldx, .ldy, .lsr, .nop, .ora, .pha, .php, .pla, .plp, .rol, .ror, .rti,
   .rts, .sbc, .sec, .sed, .sei, .sta, .stx, .sty, .tax, .tay, .tsx, .txa, .txs, .tya]

/-- The instructions: one constructor per row of the opcode table, in the table's order. -/
inductive Instr where
  /-- 0x00 BRK, `imp` (R228, R83): no operand. -/
  | brk
  /-- 0x01 ORA, `indx` (R181, R92): zero-page pointer base `z`, plus X. -/
  | oraIndx (z : Byte)
  /-- 0x05 ORA, `zp` (R181, R85): zero-page address `z`. -/
  | oraZp (z : Byte)
  /-- 0x06 ASL, `zp` (R190, R85): zero-page address `z`. -/
  | aslZp (z : Byte)
  /-- 0x08 PHP, `imp` (R151, R83): no operand. -/
  | php
  /-- 0x09 ORA, `imm` (R181, R84): literal `v`. -/
  | oraImm (v : Byte)
  /-- 0x0A ASL, `acc` (R190, R83): operand A. -/
  | aslAcc
  /-- 0x0D ORA, `abs` (R181, R88): address `w`. -/
  | oraAbs (w : Word)
  /-- 0x0E ASL, `abs` (R190, R88): address `w`. -/
  | aslAbs (w : Word)
  /-- 0x10 BPL, `rel` (R204, R94): displacement `d`. -/
  | bpl (d : Byte)
  /-- 0x11 ORA, `indy` (R181, R93): zero-page pointer address `z`, then plus Y. -/
  | oraIndy (z : Byte)
  /-- 0x15 ORA, `zpx` (R181, R86): zero-page base `z`, plus X. -/
  | oraZpx (z : Byte)
  /-- 0x16 ASL, `zpx` (R190, R86): zero-page base `z`, plus X. -/
  | aslZpx (z : Byte)
  /-- 0x18 CLC, `imp` (R220, R83): no operand. -/
  | clc
  /-- 0x19 ORA, `absy` (R181, R90): base `w`, plus Y. -/
  | oraAbsy (w : Word)
  /-- 0x1D ORA, `absx` (R181, R89): base `w`, plus X. -/
  | oraAbsx (w : Word)
  /-- 0x1E ASL, `absx` (R190, R89): base `w`, plus X. -/
  | aslAbsx (w : Word)
  /-- 0x20 JSR, `abs` (R201, R88): address `w`. -/
  | jsr (w : Word)
  /-- 0x21 AND, `indx` (R180, R92): zero-page pointer base `z`, plus X. -/
  | andIndx (z : Byte)
  /-- 0x24 BIT, `zp` (R183, R85): zero-page address `z`. -/
  | bitZp (z : Byte)
  /-- 0x25 AND, `zp` (R180, R85): zero-page address `z`. -/
  | andZp (z : Byte)
  /-- 0x26 ROL, `zp` (R192, R85): zero-page address `z`. -/
  | rolZp (z : Byte)
  /-- 0x28 PLP, `imp` (R153, R83): no operand. -/
  | plp
  /-- 0x29 AND, `imm` (R180, R84): literal `v`. -/
  | andImm (v : Byte)
  /-- 0x2A ROL, `acc` (R192, R83): operand A. -/
  | rolAcc
  /-- 0x2C BIT, `abs` (R183, R88): address `w`. -/
  | bitAbs (w : Word)
  /-- 0x2D AND, `abs` (R180, R88): address `w`. -/
  | andAbs (w : Word)
  /-- 0x2E ROL, `abs` (R192, R88): address `w`. -/
  | rolAbs (w : Word)
  /-- 0x30 BMI, `rel` (R205, R94): displacement `d`. -/
  | bmi (d : Byte)
  /-- 0x31 AND, `indy` (R180, R93): zero-page pointer address `z`, then plus Y. -/
  | andIndy (z : Byte)
  /-- 0x35 AND, `zpx` (R180, R86): zero-page base `z`, plus X. -/
  | andZpx (z : Byte)
  /-- 0x36 ROL, `zpx` (R192, R86): zero-page base `z`, plus X. -/
  | rolZpx (z : Byte)
  /-- 0x38 SEC, `imp` (R221, R83): no operand. -/
  | sec
  /-- 0x39 AND, `absy` (R180, R90): base `w`, plus Y. -/
  | andAbsy (w : Word)
  /-- 0x3D AND, `absx` (R180, R89): base `w`, plus X. -/
  | andAbsx (w : Word)
  /-- 0x3E ROL, `absx` (R192, R89): base `w`, plus X. -/
  | rolAbsx (w : Word)
  /-- 0x40 RTI, `imp` (R229, R83): no operand. -/
  | rti
  /-- 0x41 EOR, `indx` (R182, R92): zero-page pointer base `z`, plus X. -/
  | eorIndx (z : Byte)
  /-- 0x45 EOR, `zp` (R182, R85): zero-page address `z`. -/
  | eorZp (z : Byte)
  /-- 0x46 LSR, `zp` (R191, R85): zero-page address `z`. -/
  | lsrZp (z : Byte)
  /-- 0x48 PHA, `imp` (R150, R83): no operand. -/
  | pha
  /-- 0x49 EOR, `imm` (R182, R84): literal `v`. -/
  | eorImm (v : Byte)
  /-- 0x4A LSR, `acc` (R191, R83): operand A. -/
  | lsrAcc
  /-- 0x4C JMP, `abs` (R200, R88): address `w`. -/
  | jmpAbs (w : Word)
  /-- 0x4D EOR, `abs` (R182, R88): address `w`. -/
  | eorAbs (w : Word)
  /-- 0x4E LSR, `abs` (R191, R88): address `w`. -/
  | lsrAbs (w : Word)
  /-- 0x50 BVC, `rel` (R206, R94): displacement `d`. -/
  | bvc (d : Byte)
  /-- 0x51 EOR, `indy` (R182, R93): zero-page pointer address `z`, then plus Y. -/
  | eorIndy (z : Byte)
  /-- 0x55 EOR, `zpx` (R182, R86): zero-page base `z`, plus X. -/
  | eorZpx (z : Byte)
  /-- 0x56 LSR, `zpx` (R191, R86): zero-page base `z`, plus X. -/
  | lsrZpx (z : Byte)
  /-- 0x58 CLI, `imp` (R222, R83): no operand. -/
  | cli
  /-- 0x59 EOR, `absy` (R182, R90): base `w`, plus Y. -/
  | eorAbsy (w : Word)
  /-- 0x5D EOR, `absx` (R182, R89): base `w`, plus X. -/
  | eorAbsx (w : Word)
  /-- 0x5E LSR, `absx` (R191, R89): base `w`, plus X. -/
  | lsrAbsx (w : Word)
  /-- 0x60 RTS, `imp` (R202, R83): no operand. -/
  | rts
  /-- 0x61 ADC, `indx` (R160, R92): zero-page pointer base `z`, plus X. -/
  | adcIndx (z : Byte)
  /-- 0x65 ADC, `zp` (R160, R85): zero-page address `z`. -/
  | adcZp (z : Byte)
  /-- 0x66 ROR, `zp` (R193, R85): zero-page address `z`. -/
  | rorZp (z : Byte)
  /-- 0x68 PLA, `imp` (R152, R83): no operand. -/
  | pla
  /-- 0x69 ADC, `imm` (R160, R84): literal `v`. -/
  | adcImm (v : Byte)
  /-- 0x6A ROR, `acc` (R193, R83): operand A. -/
  | rorAcc
  /-- 0x6C JMP, `ind` (R200, R91): pointer address `w`. -/
  | jmpInd (w : Word)
  /-- 0x6D ADC, `abs` (R160, R88): address `w`. -/
  | adcAbs (w : Word)
  /-- 0x6E ROR, `abs` (R193, R88): address `w`. -/
  | rorAbs (w : Word)
  /-- 0x70 BVS, `rel` (R207, R94): displacement `d`. -/
  | bvs (d : Byte)
  /-- 0x71 ADC, `indy` (R160, R93): zero-page pointer address `z`, then plus Y. -/
  | adcIndy (z : Byte)
  /-- 0x75 ADC, `zpx` (R160, R86): zero-page base `z`, plus X. -/
  | adcZpx (z : Byte)
  /-- 0x76 ROR, `zpx` (R193, R86): zero-page base `z`, plus X. -/
  | rorZpx (z : Byte)
  /-- 0x78 SEI, `imp` (R223, R83): no operand. -/
  | sei
  /-- 0x79 ADC, `absy` (R160, R90): base `w`, plus Y. -/
  | adcAbsy (w : Word)
  /-- 0x7D ADC, `absx` (R160, R89): base `w`, plus X. -/
  | adcAbsx (w : Word)
  /-- 0x7E ROR, `absx` (R193, R89): base `w`, plus X. -/
  | rorAbsx (w : Word)
  /-- 0x81 STA, `indx` (R123, R92): zero-page pointer base `z`, plus X. -/
  | staIndx (z : Byte)
  /-- 0x84 STY, `zp` (R125, R85): zero-page address `z`. -/
  | styZp (z : Byte)
  /-- 0x85 STA, `zp` (R123, R85): zero-page address `z`. -/
  | staZp (z : Byte)
  /-- 0x86 STX, `zp` (R124, R85): zero-page address `z`. -/
  | stxZp (z : Byte)
  /-- 0x88 DEY, `imp` (R170, R83): no operand. -/
  | dey
  /-- 0x8A TXA, `imp` (R142, R83): no operand. -/
  | txa
  /-- 0x8C STY, `abs` (R125, R88): address `w`. -/
  | styAbs (w : Word)
  /-- 0x8D STA, `abs` (R123, R88): address `w`. -/
  | staAbs (w : Word)
  /-- 0x8E STX, `abs` (R124, R88): address `w`. -/
  | stxAbs (w : Word)
  /-- 0x90 BCC, `rel` (R208, R94): displacement `d`. -/
  | bcc (d : Byte)
  /-- 0x91 STA, `indy` (R123, R93): zero-page pointer address `z`, then plus Y. -/
  | staIndy (z : Byte)
  /-- 0x94 STY, `zpx` (R125, R86): zero-page base `z`, plus X. -/
  | styZpx (z : Byte)
  /-- 0x95 STA, `zpx` (R123, R86): zero-page base `z`, plus X. -/
  | staZpx (z : Byte)
  /-- 0x96 STX, `zpy` (R124, R87): zero-page base `z`, plus Y. -/
  | stxZpy (z : Byte)
  /-- 0x98 TYA, `imp` (R143, R83): no operand. -/
  | tya
  /-- 0x99 STA, `absy` (R123, R90): base `w`, plus Y. -/
  | staAbsy (w : Word)
  /-- 0x9A TXS, `imp` (R145, R83): no operand. -/
  | txs
  /-- 0x9D STA, `absx` (R123, R89): base `w`, plus X. -/
  | staAbsx (w : Word)
  /-- 0xA0 LDY, `imm` (R122, R84): literal `v`. -/
  | ldyImm (v : Byte)
  /-- 0xA1 LDA, `indx` (R120, R92): zero-page pointer base `z`, plus X. -/
  | ldaIndx (z : Byte)
  /-- 0xA2 LDX, `imm` (R121, R84): literal `v`. -/
  | ldxImm (v : Byte)
  /-- 0xA4 LDY, `zp` (R122, R85): zero-page address `z`. -/
  | ldyZp (z : Byte)
  /-- 0xA5 LDA, `zp` (R120, R85): zero-page address `z`. -/
  | ldaZp (z : Byte)
  /-- 0xA6 LDX, `zp` (R121, R85): zero-page address `z`. -/
  | ldxZp (z : Byte)
  /-- 0xA8 TAY, `imp` (R141, R83): no operand. -/
  | tay
  /-- 0xA9 LDA, `imm` (R120, R84): literal `v`. -/
  | ldaImm (v : Byte)
  /-- 0xAA TAX, `imp` (R140, R83): no operand. -/
  | tax
  /-- 0xAC LDY, `abs` (R122, R88): address `w`. -/
  | ldyAbs (w : Word)
  /-- 0xAD LDA, `abs` (R120, R88): address `w`. -/
  | ldaAbs (w : Word)
  /-- 0xAE LDX, `abs` (R121, R88): address `w`. -/
  | ldxAbs (w : Word)
  /-- 0xB0 BCS, `rel` (R209, R94): displacement `d`. -/
  | bcs (d : Byte)
  /-- 0xB1 LDA, `indy` (R120, R93): zero-page pointer address `z`, then plus Y. -/
  | ldaIndy (z : Byte)
  /-- 0xB4 LDY, `zpx` (R122, R86): zero-page base `z`, plus X. -/
  | ldyZpx (z : Byte)
  /-- 0xB5 LDA, `zpx` (R120, R86): zero-page base `z`, plus X. -/
  | ldaZpx (z : Byte)
  /-- 0xB6 LDX, `zpy` (R121, R87): zero-page base `z`, plus Y. -/
  | ldxZpy (z : Byte)
  /-- 0xB8 CLV, `imp` (R226, R83): no operand. -/
  | clv
  /-- 0xB9 LDA, `absy` (R120, R90): base `w`, plus Y. -/
  | ldaAbsy (w : Word)
  /-- 0xBA TSX, `imp` (R144, R83): no operand. -/
  | tsx
  /-- 0xBC LDY, `absx` (R122, R89): base `w`, plus X. -/
  | ldyAbsx (w : Word)
  /-- 0xBD LDA, `absx` (R120, R89): base `w`, plus X. -/
  | ldaAbsx (w : Word)
  /-- 0xBE LDX, `absy` (R121, R90): base `w`, plus Y. -/
  | ldxAbsy (w : Word)
  /-- 0xC0 CPY, `imm` (R164, R84): literal `v`. -/
  | cpyImm (v : Byte)
  /-- 0xC1 CMP, `indx` (R162, R92): zero-page pointer base `z`, plus X. -/
  | cmpIndx (z : Byte)
  /-- 0xC4 CPY, `zp` (R164, R85): zero-page address `z`. -/
  | cpyZp (z : Byte)
  /-- 0xC5 CMP, `zp` (R162, R85): zero-page address `z`. -/
  | cmpZp (z : Byte)
  /-- 0xC6 DEC, `zp` (R168, R85): zero-page address `z`. -/
  | decZp (z : Byte)
  /-- 0xC8 INY, `imp` (R167, R83): no operand. -/
  | iny
  /-- 0xC9 CMP, `imm` (R162, R84): literal `v`. -/
  | cmpImm (v : Byte)
  /-- 0xCA DEX, `imp` (R169, R83): no operand. -/
  | dex
  /-- 0xCC CPY, `abs` (R164, R88): address `w`. -/
  | cpyAbs (w : Word)
  /-- 0xCD CMP, `abs` (R162, R88): address `w`. -/
  | cmpAbs (w : Word)
  /-- 0xCE DEC, `abs` (R168, R88): address `w`. -/
  | decAbs (w : Word)
  /-- 0xD0 BNE, `rel` (R210, R94): displacement `d`. -/
  | bne (d : Byte)
  /-- 0xD1 CMP, `indy` (R162, R93): zero-page pointer address `z`, then plus Y. -/
  | cmpIndy (z : Byte)
  /-- 0xD5 CMP, `zpx` (R162, R86): zero-page base `z`, plus X. -/
  | cmpZpx (z : Byte)
  /-- 0xD6 DEC, `zpx` (R168, R86): zero-page base `z`, plus X. -/
  | decZpx (z : Byte)
  /-- 0xD8 CLD, `imp` (R224, R83): no operand. -/
  | cld
  /-- 0xD9 CMP, `absy` (R162, R90): base `w`, plus Y. -/
  | cmpAbsy (w : Word)
  /-- 0xDD CMP, `absx` (R162, R89): base `w`, plus X. -/
  | cmpAbsx (w : Word)
  /-- 0xDE DEC, `absx` (R168, R89): base `w`, plus X. -/
  | decAbsx (w : Word)
  /-- 0xE0 CPX, `imm` (R163, R84): literal `v`. -/
  | cpxImm (v : Byte)
  /-- 0xE1 SBC, `indx` (R161, R92): zero-page pointer base `z`, plus X. -/
  | sbcIndx (z : Byte)
  /-- 0xE4 CPX, `zp` (R163, R85): zero-page address `z`. -/
  | cpxZp (z : Byte)
  /-- 0xE5 SBC, `zp` (R161, R85): zero-page address `z`. -/
  | sbcZp (z : Byte)
  /-- 0xE6 INC, `zp` (R165, R85): zero-page address `z`. -/
  | incZp (z : Byte)
  /-- 0xE8 INX, `imp` (R166, R83): no operand. -/
  | inx
  /-- 0xE9 SBC, `imm` (R161, R84): literal `v`. -/
  | sbcImm (v : Byte)
  /-- 0xEA NOP, `imp` (R227, R83): no operand. -/
  | nop
  /-- 0xEC CPX, `abs` (R163, R88): address `w`. -/
  | cpxAbs (w : Word)
  /-- 0xED SBC, `abs` (R161, R88): address `w`. -/
  | sbcAbs (w : Word)
  /-- 0xEE INC, `abs` (R165, R88): address `w`. -/
  | incAbs (w : Word)
  /-- 0xF0 BEQ, `rel` (R211, R94): displacement `d`. -/
  | beq (d : Byte)
  /-- 0xF1 SBC, `indy` (R161, R93): zero-page pointer address `z`, then plus Y. -/
  | sbcIndy (z : Byte)
  /-- 0xF5 SBC, `zpx` (R161, R86): zero-page base `z`, plus X. -/
  | sbcZpx (z : Byte)
  /-- 0xF6 INC, `zpx` (R165, R86): zero-page base `z`, plus X. -/
  | incZpx (z : Byte)
  /-- 0xF8 SED, `imp` (R225, R83): no operand. -/
  | sed
  /-- 0xF9 SBC, `absy` (R161, R90): base `w`, plus Y. -/
  | sbcAbsy (w : Word)
  /-- 0xFD SBC, `absx` (R161, R89): base `w`, plus X. -/
  | sbcAbsx (w : Word)
  /-- 0xFE INC, `absx` (R165, R89): base `w`, plus X. -/
  | incAbsx (w : Word)
  /-- PSEUDO_OP PSEUDO-OP, type byte `t` (R230, R97): host interaction. -/
  | pseudoOp (t : Byte)
  deriving DecidableEq, Repr

end Sys2Proof
end

