-- ==== Sys2Proof/Config.lean ====
section
/-! DEFINITION. The parameters of 00_scope.md R6, as one record that the state carries, and the one free value: the
message texts the spec leaves unspecified (R250, U15). -/

namespace Sys2Proof

/-- The implementation parameters of R6. A set is a list, and only membership in it is ever asked (log 6). -/
structure Params where
  /-- `ORIGIN`: the assembly origin, and the pc after reset (D1). -/
  origin : Word
  /-- `PSEUDO_OP`: the pseudo-op's opcode byte (D15). -/
  pseudoOp : Byte
  /-- `PSEUDO_OP_HALTS`: the pseudo-op types that end the program (D15). -/
  pseudoOpHalts : List Byte
  /-- `ZP_POINTER_WRAP`: a zero-page pointer at 0xFF takes its high byte from 0x00 (D8). -/
  zpPointerWrap : Bool
  /-- `JMP_IND_PAGE_WRAP`: `JMP ($xxFF)` takes its high byte from `$xx00` (D9). -/
  jmpIndPageWrap : Bool
  /-- `RESERVED_SYMBOLS`: the names a label may not take, compared without case (D27). -/
  reservedSymbols : List Text
  /-- `HOST_INPUT_ADDRS`: the addresses the host may write between instructions (D30). -/
  hostInputAddrs : List Word
  /-- `DISPLAY_BASE` (D30, informational). -/
  displayBase : Word
  /-- `DISPLAY_LEN` (D30, informational). -/
  displayLen : Nat
  /-- `BREAKPOINTS`, held by the host (D33). -/
  breakpoints : List Word
  deriving DecidableEq, Repr

/-- The parameters of `State.reset`. The spec's defaults where it has one; the OPEN ones (ORIGIN, PSEUDO_OP,
HOST_INPUT_ADDRS, DISPLAY_BASE, DISPLAY_LEN, BREAKPOINTS) are DESIGN CHOICE, unsafe for a statement that rests on them
(log 1): statements quantify over every `Params`. -/
def Params.standard : Params where
  origin := 0x0600
  pseudoOp := 0xFF
  pseudoOpHalts := []
  zpPointerWrap := true
  jmpIndPageWrap := true
  reservedSymbols := Mnemonic.all.map Mnemonic.name ++ [['A'], ['X'], ['Y']]
  hostInputAddrs := []
  displayBase := 0
  displayLen := 0
  breakpoints := []

/-- The message text of the `n`-th notification: a free value (R250, U15; log 4). No claim can depend on it. -/
opaque Config.messageText : Nat → String

end Sys2Proof
end

