-- ==== Sys2Proof/Decode.lean ====
section
/-! DEFINITION. The decoder and the encoder: the opcode table of 30_encoding.md R98 written once (`opcodeTable`), the
decoder total on any bytes and refusing by name (R81, R96, R97, R99), and the encoder written from the same
encodings (R80, R98). The assembler and the disassembler read the same table (R81). -/

namespace Sys2Proof

/-- `hi ++ lo` as a 16-bit value (00_scope.md R7, 20_memory.md R54). -/
def wordOf (hi lo : Byte) : Word := hi ++ lo

/-- Bits 7:0 of a word: the byte at the lower address (R54). -/
def loByte (w : Word) : Byte := w.extractLsb' 0 8

/-- Bits 15:8 of a word: the byte at the higher address (R54). -/
def hiByte (w : Word) : Byte := w.extractLsb' 8 8

/-- One row of the opcode map (R81, R98): the opcode byte, the mnemonic, the mode, and the instruction that the
operand bytes `b1` and `b2` make. -/
structure Row where
  opcode : Byte
  mnemonic : Mnemonic
  mode : Mode
  make : Byte → Byte → Instr

/-- The length of the row's instruction (R82, R99). -/
def Row.length (r : Row) : Nat := r.mode.length

/-- The documented opcodes 0x00 to 0x0F (R98). -/
def opcodeRows0 : List Row :=
  [⟨0x00, .brk, .imp, fun _ _ => .brk⟩,
   ⟨0x01, .ora, .indx, fun b1 _ => .oraIndx b1⟩,
   ⟨0x05, .ora, .zp, fun b1 _ => .oraZp b1⟩,
   ⟨0x06, .asl, .zp, fun b1 _ => .aslZp b1⟩,
   ⟨0x08, .php, .imp, fun _ _ => .php⟩,
   ⟨0x09, .ora, .imm, fun b1 _ => .oraImm b1⟩,
   ⟨0x0A, .asl, .acc, fun _ _ => .aslAcc⟩,
   ⟨0x0D, .ora, .abs, fun b1 b2 => .oraAbs (wordOf b2 b1)⟩,
   ⟨0x0E, .asl, .abs, fun b1 b2 => .aslAbs (wordOf b2 b1)⟩]

/-- The documented opcodes 0x10 to 0x1F (R98). -/
def opcodeRows1 : List Row :=
  [⟨0x10, .bpl, .rel, fun b1 _ => .bpl b1⟩,
   ⟨0x11, .ora, .indy, fun b1 _ => .oraIndy b1⟩,
   ⟨0x15, .ora, .zpx, fun b1 _ => .oraZpx b1⟩,
   ⟨0x16, .asl, .zpx, fun b1 _ => .aslZpx b1⟩,
   ⟨0x18, .clc, .imp, fun _ _ => .clc⟩,
   ⟨0x19, .ora, .absy, fun b1 b2 => .oraAbsy (wordOf b2 b1)⟩,
   ⟨0x1D, .ora, .absx, fun b1 b2 => .oraAbsx (wordOf b2 b1)⟩,
   ⟨0x1E, .asl, .absx, fun b1 b2 => .aslAbsx (wordOf b2 b1)⟩]

/-- The documented opcodes 0x20 to 0x2F (R98). -/
def opcodeRows2 : List Row :=
  [⟨0x20, .jsr, .abs, fun b1 b2 => .jsr (wordOf b2 b1)⟩,
   ⟨0x21, .and, .indx, fun b1 _ => .andIndx b1⟩,
   ⟨0x24, .bit, .zp, fun b1 _ => .bitZp b1⟩,
   ⟨0x25, .and, .zp, fun b1 _ => .andZp b1⟩,
   ⟨0x26, .rol, .zp, fun b1 _ => .rolZp b1⟩,
   ⟨0x28, .plp, .imp, fun _ _ => .plp⟩,
   ⟨0x29, .and, .imm, fun b1 _ => .andImm b1⟩,
   ⟨0x2A, .rol, .acc, fun _ _ => .rolAcc⟩,
   ⟨0x2C, .bit, .abs, fun b1 b2 => .bitAbs (wordOf b2 b1)⟩,
   ⟨0x2D, .and, .abs, fun b1 b2 => .andAbs (wordOf b2 b1)⟩,
   ⟨0x2E, .rol, .abs, fun b1 b2 => .rolAbs (wordOf b2 b1)⟩]

/-- The documented opcodes 0x30 to 0x3F (R98). -/
def opcodeRows3 : List Row :=
  [⟨0x30, .bmi, .rel, fun b1 _ => .bmi b1⟩,
   ⟨0x31, .and, .indy, fun b1 _ => .andIndy b1⟩,
   ⟨0x35, .and, .zpx, fun b1 _ => .andZpx b1⟩,
   ⟨0x36, .rol, .zpx, fun b1 _ => .rolZpx b1⟩,
   ⟨0x38, .sec, .imp, fun _ _ => .sec⟩,
   ⟨0x39, .and, .absy, fun b1 b2 => .andAbsy (wordOf b2 b1)⟩,
   ⟨0x3D, .and, .absx, fun b1 b2 => .andAbsx (wordOf b2 b1)⟩,
   ⟨0x3E, .rol, .absx, fun b1 b2 => .rolAbsx (wordOf b2 b1)⟩]

/-- The documented opcodes 0x40 to 0x4F (R98). -/
def opcodeRows4 : List Row :=
  [⟨0x40, .rti, .imp, fun _ _ => .rti⟩,
   ⟨0x41, .eor, .indx, fun b1 _ => .eorIndx b1⟩,
   ⟨0x45, .eor, .zp, fun b1 _ => .eorZp b1⟩,
   ⟨0x46, .lsr, .zp, fun b1 _ => .lsrZp b1⟩,
   ⟨0x48, .pha, .imp, fun _ _ => .pha⟩,
   ⟨0x49, .eor, .imm, fun b1 _ => .eorImm b1⟩,
   ⟨0x4A, .lsr, .acc, fun _ _ => .lsrAcc⟩,
   ⟨0x4C, .jmp, .abs, fun b1 b2 => .jmpAbs (wordOf b2 b1)⟩,
   ⟨0x4D, .eor, .abs, fun b1 b2 => .eorAbs (wordOf b2 b1)⟩,
   ⟨0x4E, .lsr, .abs, fun b1 b2 => .lsrAbs (wordOf b2 b1)⟩]

/-- The documented opcodes 0x50 to 0x5F (R98). -/
def opcodeRows5 : List Row :=
  [⟨0x50, .bvc, .rel, fun b1 _ => .bvc b1⟩,
   ⟨0x51, .eor, .indy, fun b1 _ => .eorIndy b1⟩,
   ⟨0x55, .eor, .zpx, fun b1 _ => .eorZpx b1⟩,
   ⟨0x56, .lsr, .zpx, fun b1 _ => .lsrZpx b1⟩,
   ⟨0x58, .cli, .imp, fun _ _ => .cli⟩,
   ⟨0x59, .eor, .absy, fun b1 b2 => .eorAbsy (wordOf b2 b1)⟩,
   ⟨0x5D, .eor, .absx, fun b1 b2 => .eorAbsx (wordOf b2 b1)⟩,
   ⟨0x5E, .lsr, .absx, fun b1 b2 => .lsrAbsx (wordOf b2 b1)⟩]

/-- The documented opcodes 0x60 to 0x6F (R98). -/
def opcodeRows6 : List Row :=
  [⟨0x60, .rts, .imp, fun _ _ => .rts⟩,
   ⟨0x61, .adc, .indx, fun b1 _ => .adcIndx b1⟩,
   ⟨0x65, .adc, .zp, fun b1 _ => .adcZp b1⟩,
   ⟨0x66, .ror, .zp, fun b1 _ => .rorZp b1⟩,
   ⟨0x68, .pla, .imp, fun _ _ => .pla⟩,
   ⟨0x69, .adc, .imm, fun b1 _ => .adcImm b1⟩,
   ⟨0x6A, .ror, .acc, fun _ _ => .rorAcc⟩,
   ⟨0x6C, .jmp, .ind, fun b1 b2 => .jmpInd (wordOf b2 b1)⟩,
   ⟨0x6D, .adc, .abs, fun b1 b2 => .adcAbs (wordOf b2 b1)⟩,
   ⟨0x6E, .ror, .abs, fun b1 b2 => .rorAbs (wordOf b2 b1)⟩]

/-- The documented opcodes 0x70 to 0x7F (R98). -/
def opcodeRows7 : List Row :=
  [⟨0x70, .bvs, .rel, fun b1 _ => .bvs b1⟩,
   ⟨0x71, .adc, .indy, fun b1 _ => .adcIndy b1⟩,
   ⟨0x75, .adc, .zpx, fun b1 _ => .adcZpx b1⟩,
   ⟨0x76, .ror, .zpx, fun b1 _ => .rorZpx b1⟩,
   ⟨0x78, .sei, .imp, fun _ _ => .sei⟩,
   ⟨0x79, .adc, .absy, fun b1 b2 => .adcAbsy (wordOf b2 b1)⟩,
   ⟨0x7D, .adc, .absx, fun b1 b2 => .adcAbsx (wordOf b2 b1)⟩,
   ⟨0x7E, .ror, .absx, fun b1 b2 => .rorAbsx (wordOf b2 b1)⟩]

/-- The documented opcodes 0x80 to 0x8F (R98). -/
def opcodeRows8 : List Row :=
  [⟨0x81, .sta, .indx, fun b1 _ => .staIndx b1⟩,
   ⟨0x84, .sty, .zp, fun b1 _ => .styZp b1⟩,
   ⟨0x85, .sta, .zp, fun b1 _ => .staZp b1⟩,
   ⟨0x86, .stx, .zp, fun b1 _ => .stxZp b1⟩,
   ⟨0x88, .dey, .imp, fun _ _ => .dey⟩,
   ⟨0x8A, .txa, .imp, fun _ _ => .txa⟩,
   ⟨0x8C, .sty, .abs, fun b1 b2 => .styAbs (wordOf b2 b1)⟩,
   ⟨0x8D, .sta, .abs, fun b1 b2 => .staAbs (wordOf b2 b1)⟩,
   ⟨0x8E, .stx, .abs, fun b1 b2 => .stxAbs (wordOf b2 b1)⟩]

/-- The documented opcodes 0x90 to 0x9F (R98). -/
def opcodeRows9 : List Row :=
  [⟨0x90, .bcc, .rel, fun b1 _ => .bcc b1⟩,
   ⟨0x91, .sta, .indy, fun b1 _ => .staIndy b1⟩,
   ⟨0x94, .sty, .zpx, fun b1 _ => .styZpx b1⟩,
   ⟨0x95, .sta, .zpx, fun b1 _ => .staZpx b1⟩,
   ⟨0x96, .stx, .zpy, fun b1 _ => .stxZpy b1⟩,
   ⟨0x98, .tya, .imp, fun _ _ => .tya⟩,
   ⟨0x99, .sta, .absy, fun b1 b2 => .staAbsy (wordOf b2 b1)⟩,
   ⟨0x9A, .txs, .imp, fun _ _ => .txs⟩,
   ⟨0x9D, .sta, .absx, fun b1 b2 => .staAbsx (wordOf b2 b1)⟩]

/-- The documented opcodes 0xA0 to 0xAF (R98). -/
def opcodeRowsA : List Row :=
  [⟨0xA0, .ldy, .imm, fun b1 _ => .ldyImm b1⟩,
   ⟨0xA1, .lda, .indx, fun b1 _ => .ldaIndx b1⟩,
   ⟨0xA2, .ldx, .imm, fun b1 _ => .ldxImm b1⟩,
   ⟨0xA4, .ldy, .zp, fun b1 _ => .ldyZp b1⟩,
   ⟨0xA5, .lda, .zp, fun b1 _ => .ldaZp b1⟩,
   ⟨0xA6, .ldx, .zp, fun b1 _ => .ldxZp b1⟩,
   ⟨0xA8, .tay, .imp, fun _ _ => .tay⟩,
   ⟨0xA9, .lda, .imm, fun b1 _ => .ldaImm b1⟩,
   ⟨0xAA, .tax, .imp, fun _ _ => .tax⟩,
   ⟨0xAC, .ldy, .abs, fun b1 b2 => .ldyAbs (wordOf b2 b1)⟩,
   ⟨0xAD, .lda, .abs, fun b1 b2 => .ldaAbs (wordOf b2 b1)⟩,
   ⟨0xAE, .ldx, .abs, fun b1 b2 => .ldxAbs (wordOf b2 b1)⟩]

/-- The documented opcodes 0xB0 to 0xBF (R98). -/
def opcodeRowsB : List Row :=
  [⟨0xB0, .bcs, .rel, fun b1 _ => .bcs b1⟩,
   ⟨0xB1, .lda, .indy, fun b1 _ => .ldaIndy b1⟩,
   ⟨0xB4, .ldy, .zpx, fun b1 _ => .ldyZpx b1⟩,
   ⟨0xB5, .lda, .zpx, fun b1 _ => .ldaZpx b1⟩,
   ⟨0xB6, .ldx, .zpy, fun b1 _ => .ldxZpy b1⟩,
   ⟨0xB8, .clv, .imp, fun _ _ => .clv⟩,
   ⟨0xB9, .lda, .absy, fun b1 b2 => .ldaAbsy (wordOf b2 b1)⟩,
   ⟨0xBA, .tsx, .imp, fun _ _ => .tsx⟩,
   ⟨0xBC, .ldy, .absx, fun b1 b2 => .ldyAbsx (wordOf b2 b1)⟩,
   ⟨0xBD, .lda, .absx, fun b1 b2 => .ldaAbsx (wordOf b2 b1)⟩,
   ⟨0xBE, .ldx, .absy, fun b1 b2 => .ldxAbsy (wordOf b2 b1)⟩]

/-- The documented opcodes 0xC0 to 0xCF (R98). -/
def opcodeRowsC : List Row :=
  [⟨0xC0, .cpy, .imm, fun b1 _ => .cpyImm b1⟩,
   ⟨0xC1, .cmp, .indx, fun b1 _ => .cmpIndx b1⟩,
   ⟨0xC4, .cpy, .zp, fun b1 _ => .cpyZp b1⟩,
   ⟨0xC5, .cmp, .zp, fun b1 _ => .cmpZp b1⟩,
   ⟨0xC6, .dec, .zp, fun b1 _ => .decZp b1⟩,
   ⟨0xC8, .iny, .imp, fun _ _ => .iny⟩,
   ⟨0xC9, .cmp, .imm, fun b1 _ => .cmpImm b1⟩,
   ⟨0xCA, .dex, .imp, fun _ _ => .dex⟩,
   ⟨0xCC, .cpy, .abs, fun b1 b2 => .cpyAbs (wordOf b2 b1)⟩,
   ⟨0xCD, .cmp, .abs, fun b1 b2 => .cmpAbs (wordOf b2 b1)⟩,
   ⟨0xCE, .dec, .abs, fun b1 b2 => .decAbs (wordOf b2 b1)⟩]

/-- The documented opcodes 0xD0 to 0xDF (R98). -/
def opcodeRowsD : List Row :=
  [⟨0xD0, .bne, .rel, fun b1 _ => .bne b1⟩,
   ⟨0xD1, .cmp, .indy, fun b1 _ => .cmpIndy b1⟩,
   ⟨0xD5, .cmp, .zpx, fun b1 _ => .cmpZpx b1⟩,
   ⟨0xD6, .dec, .zpx, fun b1 _ => .decZpx b1⟩,
   ⟨0xD8, .cld, .imp, fun _ _ => .cld⟩,
   ⟨0xD9, .cmp, .absy, fun b1 b2 => .cmpAbsy (wordOf b2 b1)⟩,
   ⟨0xDD, .cmp, .absx, fun b1 b2 => .cmpAbsx (wordOf b2 b1)⟩,
   ⟨0xDE, .dec, .absx, fun b1 b2 => .decAbsx (wordOf b2 b1)⟩]

/-- The documented opcodes 0xE0 to 0xEF (R98). -/
def opcodeRowsE : List Row :=
  [⟨0xE0, .cpx, .imm, fun b1 _ => .cpxImm b1⟩,
   ⟨0xE1, .sbc, .indx, fun b1 _ => .sbcIndx b1⟩,
   ⟨0xE4, .cpx, .zp, fun b1 _ => .cpxZp b1⟩,
   ⟨0xE5, .sbc, .zp, fun b1 _ => .sbcZp b1⟩,
   ⟨0xE6, .inc, .zp, fun b1 _ => .incZp b1⟩,
   ⟨0xE8, .inx, .imp, fun _ _ => .inx⟩,
   ⟨0xE9, .sbc, .imm, fun b1 _ => .sbcImm b1⟩,
   ⟨0xEA, .nop, .imp, fun _ _ => .nop⟩,
   ⟨0xEC, .cpx, .abs, fun b1 b2 => .cpxAbs (wordOf b2 b1)⟩,
   ⟨0xED, .sbc, .abs, fun b1 b2 => .sbcAbs (wordOf b2 b1)⟩,
   ⟨0xEE, .inc, .abs, fun b1 b2 => .incAbs (wordOf b2 b1)⟩]

/-- The documented opcodes 0xF0 to 0xFF (R98). -/
def opcodeRowsF : List Row :=
  [⟨0xF0, .beq, .rel, fun b1 _ => .beq b1⟩,
   ⟨0xF1, .sbc, .indy, fun b1 _ => .sbcIndy b1⟩,
   ⟨0xF5, .sbc, .zpx, fun b1 _ => .sbcZpx b1⟩,
   ⟨0xF6, .inc, .zpx, fun b1 _ => .incZpx b1⟩,
   ⟨0xF8, .sed, .imp, fun _ _ => .sed⟩,
   ⟨0xF9, .sbc, .absy, fun b1 b2 => .sbcAbsy (wordOf b2 b1)⟩,
   ⟨0xFD, .sbc, .absx, fun b1 b2 => .sbcAbsx (wordOf b2 b1)⟩,
   ⟨0xFE, .inc, .absx, fun b1 b2 => .incAbsx (wordOf b2 b1)⟩]

/-- The 151 documented opcodes, sorted by opcode byte (R98). -/
def opcodeTable : List Row :=
  opcodeRows0 ++ opcodeRows1 ++ opcodeRows2 ++ opcodeRows3 ++
  opcodeRows4 ++ opcodeRows5 ++ opcodeRows6 ++ opcodeRows7 ++
  opcodeRows8 ++ opcodeRows9 ++ opcodeRowsA ++ opcodeRowsB ++
  opcodeRowsC ++ opcodeRowsD ++ opcodeRowsE ++ opcodeRowsF

/-- The row of an opcode byte, by lookup in the one fixed table (R81). -/
def lookup (op : Byte) : Option Row := opcodeTable.find? (fun r => r.opcode == op)

/-- The row of a mnemonic in a mode, the assembler's view of the same table (R276). -/
def rowFor (mn : Mnemonic) (m : Mode) : Option Row :=
  opcodeTable.find? (fun r => decide (r.mnemonic = mn) && decide (r.mode = m))

/-- Why bytes decode to no instruction. -/
inductive DecodeError where
  /-- No byte at all. -/
  | noBytes
  /-- The byte is neither in the table nor PSEUDO_OP (R96). -/
  | illegalOpcode (op : Byte)
  /-- The list ends before the operand bytes the opcode's length asks for (R80, R99); never so for a fetch, which
  reads memory at every address. -/
  | truncated (op : Byte)
  deriving DecidableEq, Repr

/-- Decode the instruction at the head of a list of bytes and give the rest of the list. PSEUDO_OP is tested first,
as 48_host_operations.md R240 step 4 does; nothing but the bytes and that parameter takes part (R81, R99). -/
def decode (ps : Params) : List Byte → Except DecodeError (Instr × List Byte)
  | [] => .error .noBytes
  | op :: rest =>
    if op = ps.pseudoOp then
      match rest with
      | [] => .error (.truncated op)
      | t :: rest' => .ok (.pseudoOp t, rest')
    else
      match lookup op with
      | none => .error (.illegalOpcode op)
      | some row =>
        if rest.length + 1 < row.length then .error (.truncated op)
        else .ok (row.make (rest.getD 0 0) (rest.getD 1 0), rest.drop (row.length - 1))

/-- The bytes of an instruction: opcode, then its operand bytes, the low byte of a word first (R80, R97, R98). -/
def encode (ps : Params) : Instr → List Byte
  | .brk => [0x00]
  | .oraIndx z => [0x01, z]
  | .oraZp z => [0x05, z]
  | .aslZp z => [0x06, z]
  | .php => [0x08]
  | .oraImm v => [0x09, v]
  | .aslAcc => [0x0A]
  | .oraAbs w => [0x0D, loByte w, hiByte w]
  | .aslAbs w => [0x0E, loByte w, hiByte w]
  | .bpl d => [0x10, d]
  | .oraIndy z => [0x11, z]
  | .oraZpx z => [0x15, z]
  | .aslZpx z => [0x16, z]
  | .clc => [0x18]
  | .oraAbsy w => [0x19, loByte w, hiByte w]
  | .oraAbsx w => [0x1D, loByte w, hiByte w]
  | .aslAbsx w => [0x1E, loByte w, hiByte w]
  | .jsr w => [0x20, loByte w, hiByte w]
  | .andIndx z => [0x21, z]
  | .bitZp z => [0x24, z]
  | .andZp z => [0x25, z]
  | .rolZp z => [0x26, z]
  | .plp => [0x28]
  | .andImm v => [0x29, v]
  | .rolAcc => [0x2A]
  | .bitAbs w => [0x2C, loByte w, hiByte w]
  | .andAbs w => [0x2D, loByte w, hiByte w]
  | .rolAbs w => [0x2E, loByte w, hiByte w]
  | .bmi d => [0x30, d]
  | .andIndy z => [0x31, z]
  | .andZpx z => [0x35, z]
  | .rolZpx z => [0x36, z]
  | .sec => [0x38]
  | .andAbsy w => [0x39, loByte w, hiByte w]
  | .andAbsx w => [0x3D, loByte w, hiByte w]
  | .rolAbsx w => [0x3E, loByte w, hiByte w]
  | .rti => [0x40]
  | .eorIndx z => [0x41, z]
  | .eorZp z => [0x45, z]
  | .lsrZp z => [0x46, z]
  | .pha => [0x48]
  | .eorImm v => [0x49, v]
  | .lsrAcc => [0x4A]
  | .jmpAbs w => [0x4C, loByte w, hiByte w]
  | .eorAbs w => [0x4D, loByte w, hiByte w]
  | .lsrAbs w => [0x4E, loByte w, hiByte w]
  | .bvc d => [0x50, d]
  | .eorIndy z => [0x51, z]
  | .eorZpx z => [0x55, z]
  | .lsrZpx z => [0x56, z]
  | .cli => [0x58]
  | .eorAbsy w => [0x59, loByte w, hiByte w]
  | .eorAbsx w => [0x5D, loByte w, hiByte w]
  | .lsrAbsx w => [0x5E, loByte w, hiByte w]
  | .rts => [0x60]
  | .adcIndx z => [0x61, z]
  | .adcZp z => [0x65, z]
  | .rorZp z => [0x66, z]
  | .pla => [0x68]
  | .adcImm v => [0x69, v]
  | .rorAcc => [0x6A]
  | .jmpInd w => [0x6C, loByte w, hiByte w]
  | .adcAbs w => [0x6D, loByte w, hiByte w]
  | .rorAbs w => [0x6E, loByte w, hiByte w]
  | .bvs d => [0x70, d]
  | .adcIndy z => [0x71, z]
  | .adcZpx z => [0x75, z]
  | .rorZpx z => [0x76, z]
  | .sei => [0x78]
  | .adcAbsy w => [0x79, loByte w, hiByte w]
  | .adcAbsx w => [0x7D, loByte w, hiByte w]
  | .rorAbsx w => [0x7E, loByte w, hiByte w]
  | .staIndx z => [0x81, z]
  | .styZp z => [0x84, z]
  | .staZp z => [0x85, z]
  | .stxZp z => [0x86, z]
  | .dey => [0x88]
  | .txa => [0x8A]
  | .styAbs w => [0x8C, loByte w, hiByte w]
  | .staAbs w => [0x8D, loByte w, hiByte w]
  | .stxAbs w => [0x8E, loByte w, hiByte w]
  | .bcc d => [0x90, d]
  | .staIndy z => [0x91, z]
  | .styZpx z => [0x94, z]
  | .staZpx z => [0x95, z]
  | .stxZpy z => [0x96, z]
  | .tya => [0x98]
  | .staAbsy w => [0x99, loByte w, hiByte w]
  | .txs => [0x9A]
  | .staAbsx w => [0x9D, loByte w, hiByte w]
  | .ldyImm v => [0xA0, v]
  | .ldaIndx z => [0xA1, z]
  | .ldxImm v => [0xA2, v]
  | .ldyZp z => [0xA4, z]
  | .ldaZp z => [0xA5, z]
  | .ldxZp z => [0xA6, z]
  | .tay => [0xA8]
  | .ldaImm v => [0xA9, v]
  | .tax => [0xAA]
  | .ldyAbs w => [0xAC, loByte w, hiByte w]
  | .ldaAbs w => [0xAD, loByte w, hiByte w]
  | .ldxAbs w => [0xAE, loByte w, hiByte w]
  | .bcs d => [0xB0, d]
  | .ldaIndy z => [0xB1, z]
  | .ldyZpx z => [0xB4, z]
  | .ldaZpx z => [0xB5, z]
  | .ldxZpy z => [0xB6, z]
  | .clv => [0xB8]
  | .ldaAbsy w => [0xB9, loByte w, hiByte w]
  | .tsx => [0xBA]
  | .ldyAbsx w => [0xBC, loByte w, hiByte w]
  | .ldaAbsx w => [0xBD, loByte w, hiByte w]
  | .ldxAbsy w => [0xBE, loByte w, hiByte w]
  | .cpyImm v => [0xC0, v]
  | .cmpIndx z => [0xC1, z]
  | .cpyZp z => [0xC4, z]
  | .cmpZp z => [0xC5, z]
  | .decZp z => [0xC6, z]
  | .iny => [0xC8]
  | .cmpImm v => [0xC9, v]
  | .dex => [0xCA]
  | .cpyAbs w => [0xCC, loByte w, hiByte w]
  | .cmpAbs w => [0xCD, loByte w, hiByte w]
  | .decAbs w => [0xCE, loByte w, hiByte w]
  | .bne d => [0xD0, d]
  | .cmpIndy z => [0xD1, z]
  | .cmpZpx z => [0xD5, z]
  | .decZpx z => [0xD6, z]
  | .cld => [0xD8]
  | .cmpAbsy w => [0xD9, loByte w, hiByte w]
  | .cmpAbsx w => [0xDD, loByte w, hiByte w]
  | .decAbsx w => [0xDE, loByte w, hiByte w]
  | .cpxImm v => [0xE0, v]
  | .sbcIndx z => [0xE1, z]
  | .cpxZp z => [0xE4, z]
  | .sbcZp z => [0xE5, z]
  | .incZp z => [0xE6, z]
  | .inx => [0xE8]
  | .sbcImm v => [0xE9, v]
  | .nop => [0xEA]
  | .cpxAbs w => [0xEC, loByte w, hiByte w]
  | .sbcAbs w => [0xED, loByte w, hiByte w]
  | .incAbs w => [0xEE, loByte w, hiByte w]
  | .beq d => [0xF0, d]
  | .sbcIndy z => [0xF1, z]
  | .sbcZpx z => [0xF5, z]
  | .incZpx z => [0xF6, z]
  | .sed => [0xF8]
  | .sbcAbsy w => [0xF9, loByte w, hiByte w]
  | .sbcAbsx w => [0xFD, loByte w, hiByte w]
  | .incAbsx w => [0xFE, loByte w, hiByte w]
  | .pseudoOp t => [ps.pseudoOp, t]

/-- The three bytes of a number whose bits are numbered as spec/opcode_table.json numbers them: byte 0 holds bits 7:0,
byte 1 bits 15:8, byte 2 bits 23:16 (R80), the bits at and above `nbits` being 0. -/
def tableBytes (nbits w : Nat) : List Byte :=
  let v := w % 2 ^ nbits
  [BitVec.ofNat 8 v, BitVec.ofNat 8 (v / 256), BitVec.ofNat 8 (v / 65536)]

/-- The instruction the decoder reads from an instruction whose bits are `w`, at the parameters of
`Params.standard`. -/
def decodeTableWord (nbits w : Nat) : Option Instr :=
  match decode Params.standard (tableBytes nbits w) with
  | .ok (i, _) => some i
  | .error _ => none

end Sys2Proof
end

