-- ==== Sys2Proof/Machine/Event.lean ====
section
/-! DEFINITION. The data that the block reports and records: the lifecycle states (10_state.md R35), the fault and
refusal records (R37, R40), the step results (48_host_operations.md R242), the assembly errors (49_assembler.md R282),
the disassembly records (R291) and the notifications (10_state.md R39, 48_host_operations.md R250). -/

namespace Sys2Proof.Machine

/-- The engine's lifecycle state (R35). -/
inductive RunState where
  | initialized | ready | running | stopped | completed | debugging | debuggingPaused
  deriving DecidableEq, Repr

/-- The kinds of fatal fault (R37, 60_exceptions.md R336). -/
inductive FaultKind where
  /-- Raised by the step on a byte that is in no row (R320). -/
  | illegalOpcode
  /-- Kept for completeness of the type: no rule raises it (R321). -/
  | executionFailure
  deriving DecidableEq, Repr

/-- `Fault(kind, addr, byte)` (R37). -/
structure FaultRecord where
  kind : FaultKind
  addr : Word
  byte : Byte
  deriving DecidableEq, Repr

/-- The causes of a refusal; the spec has one (60_exceptions.md R323). -/
inductive RefusalReason where
  /-- ADC or SBC executed with P.D = 1 (R159). -/
  | decimalMode
  deriving DecidableEq, Repr

/-- `Refused(reason, pc)` (R40). -/
structure RefusalRecord where
  reason : RefusalReason
  pc : Word
  deriving DecidableEq, Repr

/-- `StepResult` (R242). -/
inductive StepResult where
  | executed
  | halted (executed : Bool)
  | faulted (kind : FaultKind)
  | refused (reason : RefusalReason)
  | noStep
  | rejected
  deriving DecidableEq, Repr

/-- The six assembly-time error kinds (R282). -/
inductive AsmErrorKind where
  | duplicateLabel | labelShadowsSymbol | unknownMnemonic | invalidAddressingMode | undefinedLabel | operandOutOfRange
  deriving DecidableEq, Repr

/-- `AsmError` (R270): the kind, the 1-based line number, the line's source text as given. -/
structure AsmError where
  kind : AsmErrorKind
  line : Nat
  text : Text
  deriving DecidableEq, Repr

/-- The symbol table: names with their addresses, in the order pass 1 defined them (R41, R279, R292). -/
abbrev SymbolTable := List (Text × Nat)

/-- The snapshot an engine notification carries (R250). -/
structure Snapshot where
  a : Byte
  x : Byte
  y : Byte
  sp : Byte
  pc : Word
  p : Byte
  deriving DecidableEq, Repr

/-- A disassembly record (R291): address, bytes, mnemonic, mode, decoded operand, operand string, full string, and the
label at the address. -/
structure DisasmRecord where
  address : Nat
  bytes : List Byte
  mnemonic : Text
  mode : Option Mode
  operand : Option Word
  operandText : Text
  fullText : Text
  label : Option Text
  deriving DecidableEq, Repr

/-- Why a `simulator-info` is emitted: a stack wrap, with the instruction's pc and the SP before the wrap (R322), or a
halt (R324). -/
inductive InfoCause where
  | stackOverflow (pc : Word) (sp : Byte)
  | halt
  deriving DecidableEq, Repr

/-- The engine notifications, those that carry a snapshot (R39, R250). -/
inductive EngineNote where
  | start | step | multistep | reset | stop | goto
  | pseudoOp (type : Byte)
  | simulatorInfo (cause : InfoCause)
  | simulatorFailure (fault : FaultRecord)
  deriving DecidableEq, Repr

/-- A notification (R39). A message text is an uninterpreted string (R250, U15; log 4); what a rule says a message
carries is kept beside it as data. `assembleInfo` is in the spec's list and no rule emits it. -/
inductive Event where
  | changed (addr : Word) (value : Byte)
  | engine (note : EngineNote) (snapshot : Snapshot) (message : String)
  | assembleSuccess
  | assembleFailure (error : AsmError) (message : String)
  | assembleInfo (message : String)
  | labelsInfo (count : Nat) (message : String)
  | labelsFailure (error : AsmError) (message : String)
  | hexdump (data : Text)
  | disassembly (data : List DisasmRecord)
  deriving DecidableEq, Repr

/-- An event's kind: the registration a listener subscribes to (R39, R252). -/
inductive EventKind where
  | changed | start | step | multistep | reset | stop | goto | pseudoOp | simulatorInfo | simulatorFailure
  | assembleSuccess | assembleFailure | assembleInfo | labelsInfo | labelsFailure | hexdump | disassembly
  deriving DecidableEq, Repr

end Sys2Proof.Machine
end

