-- ==== Sys2Proof/Machine/State.lean ====
section
/-! DEFINITION. The state of the block (10_state.md R20 to R45) as plain data, and the state at construction
(R44, 70_reset_and_hazards.md R350). -/

namespace Sys2Proof.Machine

/-- Memory: the bytes that differ from 0x00, by address, addresses strictly rising (10_state.md R34). An address not
listed reads as 0x00, the value at construction (20_memory.md R62). -/
abbrev Memory := List Host.Cell

/-- The state of the block. Every field but the last two is one that 10_state.md names. -/
structure State where
  /-- A (R20). -/
  a : Byte
  /-- X (R21). -/
  x : Byte
  /-- Y (R22). -/
  y : Byte
  /-- SP (R23). -/
  sp : Byte
  /-- P, the status byte N V U B D I Z C (R25). -/
  p : Byte
  /-- pc (R24). -/
  pc : Word
  /-- M (R34). -/
  mem : Memory
  /-- The lifecycle state (R35). -/
  runState : RunState
  /-- CODE_START (R36). -/
  codeStart : Word
  /-- CODE_LEN (R36). -/
  codeLen : Nat
  /-- CODE_VALID (R36). -/
  codeValid : Bool
  /-- The sticky fault (R37). -/
  fault : Option FaultRecord
  /-- The stop request (R38). -/
  stopRequested : Bool
  /-- The notifications emitted so far, oldest first (R39). -/
  events : List Event
  /-- The refusal mark (R40). -/
  refused : Option RefusalRecord
  /-- The symbol table (R41). -/
  symbols : SymbolTable
  /-- The debugger toggle (R42). -/
  debuggerEnabled : Bool
  /-- The breakpoint the last batch stopped at (R42). -/
  breakLatch : Option Word
  /-- A breakpoint hit that `run()` has not acted on (R42). -/
  breakpointHit : Bool
  /-- The model's own: the result the last core step returned (R242; log 5). -/
  lastResult : StepResult
  /-- The model's own: the parameters of 00_scope.md R6, which no operation changes (log 1). -/
  params : Params
  deriving DecidableEq, Repr

/-- Why a step stops with a fault. The spec's faults are recorded in `State.fault` and the step goes on to a next
state (R37, R320), so this type only keeps the spec's generic failure. -/
inductive Fault where
  /-- `ExecutionFailure` (60_exceptions.md R321): nobody raises it, as in the spec; safe. -/
  | executionFailure
  deriving DecidableEq, Repr

/-- Why a step has no meaning. The spec's own refusal is the mark `State.refused` (R40, R323), a next state. -/
inductive Refusal where
  /-- An instruction without a meaning in this model; raised by no arm of `exec`; safe. -/
  | notModelled (mnemonic : String)
  deriving DecidableEq, Repr

/-- The block at construction, for any parameters: the construction column of R44, and R350. -/
def State.construct (ps : Params) : State where
  a := 0x00
  x := 0x00
  y := 0x00
  sp := 0xFF
  p := 0x20
  pc := ps.origin
  mem := []
  runState := .initialized
  codeStart := ps.origin
  codeLen := 0
  codeValid := false
  fault := none
  stopRequested := false
  events := []
  refused := none
  symbols := []
  debuggerEnabled := false
  breakLatch := none
  breakpointHit := false
  lastResult := .noStep
  params := ps

/-- The machine right after construction, at the parameters `Params.standard` (log 1, log 2). -/
def State.reset : State := State.construct Params.standard

end Sys2Proof.Machine
end

