-- ==== Sys2Proof/Machine/Ops.lean ====
section
/-! DEFINITION. The named operations on memory, registers, notifications and the engine's outcome: get, set and
get_word (20_memory.md R51 to R53), push and pull (00_scope.md R11), the outcome primitives (R13), raising a fault
(60_exceptions.md R320), and the fetch of an instruction's bytes (30_encoding.md R80). -/

namespace Sys2Proof.Machine

/-- What a meaning answers. -/
abbrev Result := Host.Outcome State Fault Refusal

/-! ## Memory -/

/-- The byte at an address; 0x00 where nothing is listed (R62). -/
def Memory.read : Memory → Nat → Byte
  | [], _ => 0
  | (k, v) :: rest, a => if k = a then v else Memory.read rest a

/-- Memory without the entries of an address. -/
def Memory.erase : Memory → Nat → Memory
  | [], _ => []
  | (k, v) :: rest, a => if k = a then Memory.erase rest a else (k, v) :: Memory.erase rest a

/-- Memory with one entry put before the first greater address. -/
def Memory.insert : Memory → Nat → Byte → Memory
  | [], a, v => [(a, v)]
  | (k, w) :: rest, a, v => if a < k then (a, v) :: (k, w) :: rest else (k, w) :: Memory.insert rest a v

/-- `M[a] <- v`, in canonical form: writing 0x00 removes the entry. -/
def Memory.write (m : Memory) (a : Nat) (v : Byte) : Memory :=
  if v = 0 then m.erase a else (m.erase a).insert a v

/-- Every entry from `lo` on: addresses strictly rising, below 65,536, no entry 0x00. -/
def Memory.wfFrom : Nat → Memory → Bool
  | _, [] => true
  | lo, (k, v) :: rest => decide (lo ≤ k) && decide (k < 65536) && decide (v ≠ 0) && Memory.wfFrom (k + 1) rest

/-- The canonical form of memory. -/
def Memory.wf (m : Memory) : Bool := Memory.wfFrom 0 m

/-! ## Registers and control fields -/

/-- `A <- v` (R8). -/
def State.setA (s : State) (v : Byte) : State := { s with a := v }
/-- `X <- v` (R8). -/
def State.setX (s : State) (v : Byte) : State := { s with x := v }
/-- `Y <- v` (R8). -/
def State.setY (s : State) (v : Byte) : State := { s with y := v }
/-- `SP <- v` (R8). -/
def State.setSp (s : State) (v : Byte) : State := { s with sp := v }
/-- `P <- v` as one byte; only `loadStatus` and the flag writes call it, so that U and B keep their values. -/
def State.setP (s : State) (v : Byte) : State := { s with p := v }
/-- `pc <- v` (R8). -/
def State.setPc (s : State) (v : Word) : State := { s with pc := v }
/-- Memory replaced as a whole. -/
def State.setMem (s : State) (m : Memory) : State := { s with mem := m }
/-- `runState <- r` (R35). -/
def State.setRunState (s : State) (r : RunState) : State := { s with runState := r }
/-- The result a core step returns (R242). -/
def State.setResult (s : State) (r : StepResult) : State := { s with lastResult := r }
/-- `fault <- f` (R37). -/
def State.setFault (s : State) (f : Option FaultRecord) : State := { s with fault := f }
/-- `refused <- r` (R40). -/
def State.setRefused (s : State) (r : Option RefusalRecord) : State := { s with refused := r }
/-- One event appended to `events` (R39). -/
def State.addEvent (s : State) (e : Event) : State := { s with events := s.events ++ [e] }

/-! ## Notifications -/

/-- The snapshot of the registers as they stand (48_host_operations.md R250). -/
def State.snapshot (s : State) : Snapshot := ⟨s.a, s.x, s.y, s.sp, s.pc, s.p⟩

/-- The text of the next notification's message: a free value, one for each notification (R250, U15; log 4). -/
def State.nextText (s : State) : String := Config.messageText s.events.length

/-- Emit an engine notification with its snapshot (R250). -/
def State.emit (s : State) (n : EngineNote) : State := s.addEvent (.engine n s.snapshot s.nextText)

/-! ## Memory access -/

/-- `get(addr)`, `MemRead(addr, 1)` (R51): no side effect. -/
def State.peek (s : State) (a : Word) : Byte := s.mem.read a.toNat

/-- `get_word(addr)`, `MemRead(addr, 2)` (R53): low byte first, the second address wrapping at 0xFFFF. -/
def State.getWord (s : State) (a : Word) : Word := wordOf (s.peek (a + 1)) (s.peek a)

/-- `MemWrite(addr, 1, v)` of a byte: store it, then emit one `changed` (R52). -/
def State.poke (s : State) (a : Word) (v : Byte) : State :=
  (s.setMem (s.mem.write a.toNat v)).addEvent (.changed a v)

/-- `set(addr, v)` of any number: masked to 8 bits, then as `poke` (R52). -/
def State.memSet (s : State) (a : Word) (v : Nat) : State := s.poke a (BitVec.ofNat 8 v)

/-- Memory reset: every byte 0x00, no event (R63). -/
def State.memoryReset (s : State) : State := s.setMem []

/-! ## The stack -/

/-- `0x0100 + SP` (R11). -/
def State.stackAddr (s : State) : Word := wordOf 0x01 s.sp

/-- `warn StackOverflow(pc, SP)` (R13, R322): an event, nothing else. -/
def State.warnStack (s : State) : State := s.emit (.simulatorInfo (.stackOverflow s.pc s.sp))

/-- `push(v)` (R11): write, warn if SP = 0x00, then decrement. -/
def State.push (s : State) (v : Byte) : State :=
  let t := s.poke s.stackAddr v
  let u := if t.sp = 0x00 then t.warnStack else t
  u.setSp (u.sp - 1)

/-- `pull()` but for its value (R11): warn if SP = 0xFF, then increment. -/
def State.pull (s : State) : State :=
  let t := if s.sp = 0xFF then s.warnStack else s
  t.setSp (t.sp + 1)

/-- The value `pull()` returns (R11): the byte at `0x0100 + SP` after the increment. -/
def State.pulled (s : State) : Byte := s.peek s.pull.stackAddr

/-! ## The status byte as a whole -/

/-- The image PHP pushes: P with B and U set (10_state.md R27, 42_stack.md R151). -/
def State.statusImage (s : State) : Byte := s.p ||| 0x30

/-- `P <- (v & 0xCF) | 0x20`: a whole write of P forces U to 1 and B to 0 (10_state.md R26, R27). -/
def State.loadStatus (s : State) (v : Byte) : State := s.setP ((v &&& 0xCF) ||| 0x20)

/-! ## Outcomes -/

/-- Normal completion of an instruction that does not set pc: pc advances by the length, modulo 65536 (R13, R240
steps 8 and 10). -/
def State.complete (s : State) (len : Nat) : State := (s.setPc (s.pc + BitVec.ofNat 16 len)).setResult .executed

/-- Normal completion of an instruction that sets pc (R8, R240 step 10). -/
def State.jump (s : State) (target : Word) : State := (s.setPc target).setResult .executed

/-- `halt` (R13, R240 step 9, R241, R324): Completed, one `simulator-info`; `executed` says whether an instruction
executed. -/
def State.halt (s : State) (executed : Bool) : State :=
  ((s.setRunState .completed).emit (.simulatorInfo .halt)).setResult (.halted executed)

/-- `refuse(reason)` (R13, R240 step 7, R323): the mark is set, nothing else changes. -/
def State.refuse (s : State) (reason : RefusalReason) : State :=
  (s.setRefused (some ⟨reason, s.pc⟩)).setResult (.refused reason)

/-- `raise Fault(kind, pc, byte)` (R13, R320): the sticky record, Stopped, one `simulator-failure`; no register and no
byte of memory changes. The block's whole reaction to an exceptional condition. -/
def State.raise (s : State) (kind : FaultKind) (byte : Byte) : State :=
  (((s.setFault (some ⟨kind, s.pc, byte⟩)).setRunState .stopped).emit
    (.simulatorFailure ⟨kind, s.pc, byte⟩)).setResult (.faulted kind)

/-- A step while a fault or a refusal stands: nothing changes (R240 step 1). -/
def State.noStep (s : State) : State := s.setResult .noStep

/-! ## Fetch -/

/-- The bytes at pc, pc + 1 and pc + 2, wrapping modulo 65536 (R80). Reads have no side effect (R51), so reading a byte
that the instruction's length leaves out is no event and no change. -/
def State.fetchBytes (s : State) : List Byte := [s.peek s.pc, s.peek (s.pc + 1), s.peek (s.pc + 2)]

/-- pc lies in `[CODE_START, CODE_START + CODE_LEN)`, compared as integers (R240 step 2). -/
def State.inCode (s : State) : Bool :=
  decide (s.codeStart.toNat ≤ s.pc.toNat) && decide (s.pc.toNat < s.codeStart.toNat + s.codeLen)

/-- Bytes put into memory from an address on, with no event: what a load from outside leaves there (log 2). -/
def Memory.load : Memory → Word → List Byte → Memory
  | m, _, [] => m
  | m, a, b :: bs => Memory.load (m.write a.toNat b) (a + 1) bs

end Sys2Proof.Machine
end

