-- ==== Sys2Proof/Machine/Flags.lean ====
section
/-! DEFINITION. The status flags (10_state.md R25 to R33), `setNZ` (00_scope.md R12), the add core (43_arithmetic.md
R158), the compare (R162 to R164) and the four shifts and rotates of a byte (45_shift_rotate.md R190 to R193). -/

namespace Sys2Proof.Machine

/-- `P.C`, bit 0 (R28). -/
def State.flagC (s : State) : Bool := s.p.getLsbD 0
/-- `P.Z`, bit 1 (R29). -/
def State.flagZ (s : State) : Bool := s.p.getLsbD 1
/-- `P.I`, bit 2 (R30). -/
def State.flagI (s : State) : Bool := s.p.getLsbD 2
/-- `P.D`, bit 3 (R31). -/
def State.flagD (s : State) : Bool := s.p.getLsbD 3
/-- `P.B`, bit 4 (R27). -/
def State.flagB (s : State) : Bool := s.p.getLsbD 4
/-- `P.U`, bit 5 (R26). -/
def State.flagU (s : State) : Bool := s.p.getLsbD 5
/-- `P.V`, bit 6 (R32). -/
def State.flagV (s : State) : Bool := s.p.getLsbD 6
/-- `P.N`, bit 7 (R33). -/
def State.flagN (s : State) : Bool := s.p.getLsbD 7

/-- A byte with the bits of a one-bit mask set to `v`, the others kept (R12: a flag not listed keeps its value). -/
def withMask (p mask : Byte) (v : Bool) : Byte := if v then p ||| mask else p &&& ~~~mask

/-- `P.C <- v`. -/
def State.setC (s : State) (v : Bool) : State := s.setP (withMask s.p 0x01 v)
/-- `P.Z <- v`. -/
def State.setZ (s : State) (v : Bool) : State := s.setP (withMask s.p 0x02 v)
/-- `P.I <- v`. -/
def State.setI (s : State) (v : Bool) : State := s.setP (withMask s.p 0x04 v)
/-- `P.D <- v`. -/
def State.setD (s : State) (v : Bool) : State := s.setP (withMask s.p 0x08 v)
/-- `P.V <- v`. -/
def State.setV (s : State) (v : Bool) : State := s.setP (withMask s.p 0x40 v)
/-- `P.N <- v`. -/
def State.setN (s : State) (v : Bool) : State := s.setP (withMask s.p 0x80 v)

/-- `setNZ(r)`: `P.Z <- (r = 0); P.N <- r[7]` (R12). -/
def State.setNZ (s : State) (r : Byte) : State := (s.setZ (decide (r = 0))).setN (r.getLsbD 7)

/-- The outputs of the add core. -/
structure AddOut where
  result : Byte
  carry : Bool
  overflow : Bool
  deriving DecidableEq, Repr

/-- `AddC(a, m, c)` (R158): the exact sum, narrowed once; carry and overflow as the rule's formulas. -/
def addC (a m : Byte) (c : Bool) : AddOut :=
  let t := a.toNat + m.toNat + c.toNat
  let r := BitVec.ofNat 8 t
  ⟨r, decide (t > 255), decide ((a ^^^ r) &&& (m ^^^ r) &&& 0x80 ≠ 0)⟩

/-- The flags of a compare of a register value with an operand (R162 to R164): C is "register >= operand" on unsigned
values, N and Z are from the difference modulo 256. -/
def State.compareFlags (s : State) (reg m : Byte) : State :=
  (s.setC (decide (m.toNat ≤ reg.toNat))).setNZ (reg - m)

/-- The outputs of a shift or rotate. -/
structure ShiftOut where
  result : Byte
  carry : Bool
  deriving DecidableEq, Repr

/-- ASL (R190): `c_out <- v[7]; r <- (v << 1) & 0xFF`. The carry in is not read. -/
def aslByte (v : Byte) (_ : Bool) : ShiftOut := ⟨v <<< 1, v.getLsbD 7⟩
/-- LSR (R191): `c_out <- v[0]; r <- v >> 1`. The carry in is not read. -/
def lsrByte (v : Byte) (_ : Bool) : ShiftOut := ⟨v >>> 1, v.getLsbD 0⟩
/-- ROL (R192): `c_out <- v[7]; r <- ((v << 1) | P.C) & 0xFF`. -/
def rolByte (v : Byte) (c : Bool) : ShiftOut := ⟨(v <<< 1) ||| (if c then 0x01 else 0x00), v.getLsbD 7⟩
/-- ROR (R193): `c_out <- v[0]; r <- (v >> 1) | (P.C << 7)`. -/
def rorByte (v : Byte) (c : Bool) : ShiftOut := ⟨(v >>> 1) ||| (if c then 0x80 else 0x00), v.getLsbD 0⟩

end Sys2Proof.Machine
end

