-- ==== Sys2Proof/Machine/Operands.lean ====
section
/-! DEFINITION. Every operand form: effective addresses (30_encoding.md R85 to R93), the indirect jump target (R91), the
branch target (R94), and the operand and store primitives (00_scope.md R10). -/

namespace Sys2Proof.Machine

/-- `zext_16(v)` (R7). -/
def zext16 (v : Byte) : Word := v.setWidth 16

/-- `sext_16(v)` (R7). -/
def sext16 (v : Byte) : Word := v.signExtend 16

/-- The memory modes, with their operand bytes. -/
inductive MemMode where
  | zp (z : Byte) | zpx (z : Byte) | zpy (z : Byte)
  | abs (w : Word) | absx (w : Word) | absy (w : Word)
  | indx (z : Byte) | indy (z : Byte)
  deriving DecidableEq, Repr

/-- The instruction's length in the mode (R82). -/
def MemMode.length : MemMode → Nat
  | .zp _ | .zpx _ | .zpy _ | .indx _ | .indy _ => 2
  | .abs _ | .absx _ | .absy _ => 3

/-- `ZpWord(p)` (R92): the pointer held in the zero page at `p`; at 0xFF its high byte is read from 0x00 or from 0x0100
as `ZP_POINTER_WRAP` says. -/
def State.zpWord (s : State) (p : Byte) : Word :=
  if s.params.zpPointerWrap then wordOf (s.peek (zext16 (p + 1))) (s.peek (zext16 p)) else s.getWord (zext16 p)

/-- `EA(mode)` (R10, R85 to R90, R92, R93). -/
def MemMode.ea (m : MemMode) (s : State) : Word :=
  match m with
  | .zp z => zext16 z
  | .zpx z => zext16 (z + s.x)
  | .zpy z => zext16 (z + s.y)
  | .abs w => w
  | .absx w => w + zext16 s.x
  | .absy w => w + zext16 s.y
  | .indx z => s.zpWord (z + s.x)
  | .indy z => s.zpWord z + zext16 s.y

/-- What an instruction reads: a literal (R84) or the byte at an effective address. -/
inductive Source where
  | imm (v : Byte)
  | mem (m : MemMode)
  deriving DecidableEq, Repr

/-- The instruction's length with the operand (R82). -/
def Source.length : Source → Nat
  | .imm _ => 2
  | .mem m => m.length

/-- `Operand(mode)` for `imm` and the memory modes (R10, R84). -/
def Source.value (src : Source) (s : State) : Byte :=
  match src with
  | .imm v => v
  | .mem m => s.peek (m.ea s)

/-- What a shift or rotate works on: A (R83) or a byte of memory. -/
inductive Target where
  | acc
  | mem (m : MemMode)
  deriving DecidableEq, Repr

/-- The instruction's length with the target (R82). -/
def Target.length : Target → Nat
  | .acc => 1
  | .mem m => m.length

/-- `Operand(mode)` for `acc` and the memory modes (R10, R83). -/
def Target.value (t : Target) (s : State) : Byte :=
  match t with
  | .acc => s.a
  | .mem m => s.peek (m.ea s)

/-- `Store(mode, v)` (R10): `A <- v`, or one write at the effective address. -/
def Target.store (t : Target) (s : State) (v : Byte) : State :=
  match t with
  | .acc => s.setA v
  | .mem m => s.poke (m.ea s) v

/-- The target of `JMP ($hhhh)` (R91): at a pointer ending in 0xFF the high byte is read from the start of the same
page, or from the next address, as `JMP_IND_PAGE_WRAP` says. -/
def State.indirectTarget (s : State) (ptr : Word) : Word :=
  if s.params.jmpIndPageWrap then wordOf (s.peek ((ptr &&& 0xFF00) ||| ((ptr + 1) &&& 0x00FF))) (s.peek ptr)
  else s.getWord ptr

/-- A taken branch's target, `(pc + 2 + sext_16(b1)) mod 65536` (R94). -/
def State.branchTarget (s : State) (d : Byte) : Word := s.pc + 2 + sext16 d

end Sys2Proof.Machine
end

