-- ==== Sys2Proof/Machine/Transfer.lean ====
section
/-! DEFINITION. Register transfers (41_transfer.md R140 to R145), and the writes of an index register with N and Z that
the register increments and decrements share (43_arithmetic.md R166, R167, R169, R170). -/

namespace Sys2Proof.Machine

/-- `A <- v; setNZ(A)`, one byte long (R142, R143). -/
def transferA (v : Byte) (s : State) : Result := .next (((s.setA v).setNZ v).complete 1)

/-- `X <- v; setNZ(X)`, one byte long (R140, R144, R166, R169). -/
def transferX (v : Byte) (s : State) : Result := .next (((s.setX v).setNZ v).complete 1)

/-- `Y <- v; setNZ(Y)`, one byte long (R141, R167, R170). -/
def transferY (v : Byte) (s : State) : Result := .next (((s.setY v).setNZ v).complete 1)

/-- TAX, `imp`, 0xAA (R140, R83). -/
def execTax (s : State) : Result :=
  transferX s.a s

/-- TAY, `imp`, 0xA8 (R141, R83). -/
def execTay (s : State) : Result :=
  transferY s.a s

/-- TXA, `imp`, 0x8A (R142, R83). -/
def execTxa (s : State) : Result :=
  transferA s.x s

/-- TYA, `imp`, 0x98 (R143, R83). -/
def execTya (s : State) : Result :=
  transferA s.y s

/-- TSX, `imp`, 0xBA (R144, R83). -/
def execTsx (s : State) : Result :=
  transferX s.sp s

/-- TXS, `imp`, 0x9A (R145, R83). -/
def execTxs (s : State) : Result :=
  .next ((s.setSp s.x).complete 1)

end Sys2Proof.Machine
end

