-- ==== Sys2Proof/Machine/Arithmetic.lean ====
section
/-! DEFINITION. Add, subtract, compare, increment and decrement (43_arithmetic.md R158 to R170). -/

namespace Sys2Proof.Machine

/-- The effect ADC and SBC share once D = 0: A, C, V, N and Z from the add core (R158, R160, R161). -/
def State.storeSum (s : State) (o : AddOut) : State :=
  (((s.setA o.result).setC o.carry).setV o.overflow).setNZ o.result

/-- ADC (R160): refused under D = 1 before anything is read or written (R159; log 3). -/
def addWithCarry (src : Source) (s : State) : Result :=
  if s.flagD then .next (s.refuse .decimalMode)
  else .next ((s.storeSum (addC s.a (src.value s) s.flagC)).complete src.length)

/-- SBC (R161): the add of the operand's complement; refused under D = 1 (R159; log 3). -/
def subWithCarry (src : Source) (s : State) : Result :=
  if s.flagD then .next (s.refuse .decimalMode)
  else .next ((s.storeSum (addC s.a (~~~(src.value s)) s.flagC)).complete src.length)

/-- CMP, CPX, CPY (R162 to R164): flags only. -/
def compareWith (reg : Byte) (src : Source) (s : State) : Result :=
  .next ((s.compareFlags reg (src.value s)).complete src.length)

/-- INC and DEC (R165, R168): one read and one write at the same address, N and Z. -/
def modifyMem (f : Byte → Byte) (m : MemMode) (s : State) : Result :=
  .next (((s.poke (m.ea s) (f (s.peek (m.ea s)))).setNZ (f (s.peek (m.ea s)))).complete m.length)

/-- ADC, `indx`, 0x61 (R160, R92). -/
def execAdcIndx (z : Byte) (s : State) : Result :=
  addWithCarry (.mem (.indx z)) s

/-- ADC, `zp`, 0x65 (R160, R85). -/
def execAdcZp (z : Byte) (s : State) : Result :=
  addWithCarry (.mem (.zp z)) s

/-- ADC, `imm`, 0x69 (R160, R84). -/
def execAdcImm (v : Byte) (s : State) : Result :=
  addWithCarry (.imm v) s

/-- ADC, `abs`, 0x6D (R160, R88). -/
def execAdcAbs (w : Word) (s : State) : Result :=
  addWithCarry (.mem (.abs w)) s

/-- ADC, `indy`, 0x71 (R160, R93). -/
def execAdcIndy (z : Byte) (s : State) : Result :=
  addWithCarry (.mem (.indy z)) s

/-- ADC, `zpx`, 0x75 (R160, R86). -/
def execAdcZpx (z : Byte) (s : State) : Result :=
  addWithCarry (.mem (.zpx z)) s

/-- ADC, `absy`, 0x79 (R160, R90). -/
def execAdcAbsy (w : Word) (s : State) : Result :=
  addWithCarry (.mem (.absy w)) s

/-- ADC, `absx`, 0x7D (R160, R89). -/
def execAdcAbsx (w : Word) (s : State) : Result :=
  addWithCarry (.mem (.absx w)) s

/-- SBC, `indx`, 0xE1 (R161, R92). -/
def execSbcIndx (z : Byte) (s : State) : Result :=
  subWithCarry (.mem (.indx z)) s

/-- SBC, `zp`, 0xE5 (R161, R85). -/
def execSbcZp (z : Byte) (s : State) : Result :=
  subWithCarry (.mem (.zp z)) s

/-- SBC, `imm`, 0xE9 (R161, R84). -/
def execSbcImm (v : Byte) (s : State) : Result :=
  subWithCarry (.imm v) s

/-- SBC, `abs`, 0xED (R161, R88). -/
def execSbcAbs (w : Word) (s : State) : Result :=
  subWithCarry (.mem (.abs w)) s

/-- SBC, `indy`, 0xF1 (R161, R93). -/
def execSbcIndy (z : Byte) (s : State) : Result :=
  subWithCarry (.mem (.indy z)) s

/-- SBC, `zpx`, 0xF5 (R161, R86). -/
def execSbcZpx (z : Byte) (s : State) : Result :=
  subWithCarry (.mem (.zpx z)) s

/-- SBC, `absy`, 0xF9 (R161, R90). -/
def execSbcAbsy (w : Word) (s : State) : Result :=
  subWithCarry (.mem (.absy w)) s

/-- SBC, `absx`, 0xFD (R161, R89). -/
def execSbcAbsx (w : Word) (s : State) : Result :=
  subWithCarry (.mem (.absx w)) s

/-- CMP, `indx`, 0xC1 (R162, R92). -/
def execCmpIndx (z : Byte) (s : State) : Result :=
  compareWith s.a (.mem (.indx z)) s

/-- CMP, `zp`, 0xC5 (R162, R85). -/
def execCmpZp (z : Byte) (s : State) : Result :=
  compareWith s.a (.mem (.zp z)) s

/-- CMP, `imm`, 0xC9 (R162, R84). -/
def execCmpImm (v : Byte) (s : State) : Result :=
  compareWith s.a (.imm v) s

/-- CMP, `abs`, 0xCD (R162, R88). -/
def execCmpAbs (w : Word) (s : State) : Result :=
  compareWith s.a (.mem (.abs w)) s

/-- CMP, `indy`, 0xD1 (R162, R93). -/
def execCmpIndy (z : Byte) (s : State) : Result :=
  compareWith s.a (.mem (.indy z)) s

/-- CMP, `zpx`, 0xD5 (R162, R86). -/
def execCmpZpx (z : Byte) (s : State) : Result :=
  compareWith s.a (.mem (.zpx z)) s

/-- CMP, `absy`, 0xD9 (R162, R90). -/
def execCmpAbsy (w : Word) (s : State) : Result :=
  compareWith s.a (.mem (.absy w)) s

/-- CMP, `absx`, 0xDD (R162, R89). -/
def execCmpAbsx (w : Word) (s : State) : Result :=
  compareWith s.a (.mem (.absx w)) s

/-- CPX, `imm`, 0xE0 (R163, R84). -/
def execCpxImm (v : Byte) (s : State) : Result :=
  compareWith s.x (.imm v) s

/-- CPX, `zp`, 0xE4 (R163, R85). -/
def execCpxZp (z : Byte) (s : State) : Result :=
  compareWith s.x (.mem (.zp z)) s

/-- CPX, `abs`, 0xEC (R163, R88). -/
def execCpxAbs (w : Word) (s : State) : Result :=
  compareWith s.x (.mem (.abs w)) s

/-- CPY, `imm`, 0xC0 (R164, R84). -/
def execCpyImm (v : Byte) (s : State) : Result :=
  compareWith s.y (.imm v) s

/-- CPY, `zp`, 0xC4 (R164, R85). -/
def execCpyZp (z : Byte) (s : State) : Result :=
  compareWith s.y (.mem (.zp z)) s

/-- CPY, `abs`, 0xCC (R164, R88). -/
def execCpyAbs (w : Word) (s : State) : Result :=
  compareWith s.y (.mem (.abs w)) s

/-- INC, `zp`, 0xE6 (R165, R85). -/
def execIncZp (z : Byte) (s : State) : Result :=
  modifyMem (fun v => v + 1) (.zp z) s

/-- INC, `abs`, 0xEE (R165, R88). -/
def execIncAbs (w : Word) (s : State) : Result :=
  modifyMem (fun v => v + 1) (.abs w) s

/-- INC, `zpx`, 0xF6 (R165, R86). -/
def execIncZpx (z : Byte) (s : State) : Result :=
  modifyMem (fun v => v + 1) (.zpx z) s

/-- INC, `absx`, 0xFE (R165, R89). -/
def execIncAbsx (w : Word) (s : State) : Result :=
  modifyMem (fun v => v + 1) (.absx w) s

/-- INX, `imp`, 0xE8 (R166, R83). -/
def execInx (s : State) : Result :=
  transferX (s.x + 1) s

/-- INY, `imp`, 0xC8 (R167, R83). -/
def execIny (s : State) : Result :=
  transferY (s.y + 1) s

/-- DEC, `zp`, 0xC6 (R168, R85). -/
def execDecZp (z : Byte) (s : State) : Result :=
  modifyMem (fun v => v - 1) (.zp z) s

/-- DEC, `abs`, 0xCE (R168, R88). -/
def execDecAbs (w : Word) (s : State) : Result :=
  modifyMem (fun v => v - 1) (.abs w) s

/-- DEC, `zpx`, 0xD6 (R168, R86). -/
def execDecZpx (z : Byte) (s : State) : Result :=
  modifyMem (fun v => v - 1) (.zpx z) s

/-- DEC, `absx`, 0xDE (R168, R89). -/
def execDecAbsx (w : Word) (s : State) : Result :=
  modifyMem (fun v => v - 1) (.absx w) s

/-- DEX, `imp`, 0xCA (R169, R83). -/
def execDex (s : State) : Result :=
  transferX (s.x - 1) s

/-- DEY, `imp`, 0x88 (R170, R83). -/
def execDey (s : State) : Result :=
  transferY (s.y - 1) s

end Sys2Proof.Machine
end

