-- ==== Sys2Proof/Machine/Control.lean ====
section
/-! DEFINITION. Jumps, calls, returns and branches (46_control.md R200 to R211). -/

namespace Sys2Proof.Machine

/-- JSR (R201): push the address of the instruction's last byte, high byte first, then jump. -/
def callSubroutine (target : Word) (s : State) : Result :=
  let ret := s.pc + 2
  .next (((s.push (hiByte ret)).push (loByte ret)).jump target)

/-- RTS (R202): pull the low byte, then the high byte, and add 1. -/
def returnFromSubroutine (s : State) : Result :=
  .next (s.pull.pull.jump (wordOf s.pull.pulled s.pulled + 1))

/-- The branch frame (R203): the target if the condition holds, else the next instruction. -/
def branch (cond : Bool) (d : Byte) (s : State) : Result :=
  if cond then .next (s.jump (s.branchTarget d)) else .next (s.complete 2)

/-- JMP, `abs`, 0x4C (R200, R88). -/
def execJmpAbs (w : Word) (s : State) : Result :=
  .next (s.jump w)

/-- JMP, `ind`, 0x6C (R200, R91). -/
def execJmpInd (w : Word) (s : State) : Result :=
  .next (s.jump (s.indirectTarget w))

/-- JSR, `abs`, 0x20 (R201, R88). -/
def execJsr (w : Word) (s : State) : Result :=
  callSubroutine w s

/-- RTS, `imp`, 0x60 (R202, R83). -/
def execRts (s : State) : Result :=
  returnFromSubroutine s

/-- BPL, `rel`, 0x10 (R204, R94). -/
def execBpl (d : Byte) (s : State) : Result :=
  branch (!s.flagN) d s

/-- BMI, `rel`, 0x30 (R205, R94). -/
def execBmi (d : Byte) (s : State) : Result :=
  branch s.flagN d s

/-- BVC, `rel`, 0x50 (R206, R94). -/
def execBvc (d : Byte) (s : State) : Result :=
  branch (!s.flagV) d s

/-- BVS, `rel`, 0x70 (R207, R94). -/
def execBvs (d : Byte) (s : State) : Result :=
  branch s.flagV d s

/-- BCC, `rel`, 0x90 (R208, R94). -/
def execBcc (d : Byte) (s : State) : Result :=
  branch (!s.flagC) d s

/-- BCS, `rel`, 0xB0 (R209, R94). -/
def execBcs (d : Byte) (s : State) : Result :=
  branch s.flagC d s

/-- BNE, `rel`, 0xD0 (R210, R94). -/
def execBne (d : Byte) (s : State) : Result :=
  branch (!s.flagZ) d s

/-- BEQ, `rel`, 0xF0 (R211, R94). -/
def execBeq (d : Byte) (s : State) : Result :=
  branch s.flagZ d s

end Sys2Proof.Machine
end

