-- ==== Sys2Proof/Machine/FlagsSystem.lean ====
section
/-! DEFINITION. Flag instructions, NOP, BRK, RTI and the pseudo-op (47_flags_system.md R220 to R230). -/

namespace Sys2Proof.Machine

/-- RTI (R229): pull P, then pc low, then pc high; nothing is added. -/
def returnFromInterrupt (s : State) : Result :=
  let t := s.pull.loadStatus s.pulled
  .next (t.pull.pull.jump (wordOf t.pull.pulled t.pulled))

/-- The pseudo-op (R230): emit `pseudo-op` with its type, advance by 2, and halt if the type is a halting one. -/
def pseudoOperation (t : Byte) (s : State) : Result :=
  let u := (s.emit (.pseudoOp t)).complete 2
  if s.params.pseudoOpHalts.contains t then .next (u.halt true) else .next u

/-- CLC, `imp`, 0x18 (R220, R83). -/
def execClc (s : State) : Result :=
  .next ((s.setC false).complete 1)

/-- SEC, `imp`, 0x38 (R221, R83). -/
def execSec (s : State) : Result :=
  .next ((s.setC true).complete 1)

/-- CLI, `imp`, 0x58 (R222, R83). -/
def execCli (s : State) : Result :=
  .next ((s.setI false).complete 1)

/-- SEI, `imp`, 0x78 (R223, R83). -/
def execSei (s : State) : Result :=
  .next ((s.setI true).complete 1)

/-- CLD, `imp`, 0xD8 (R224, R83). -/
def execCld (s : State) : Result :=
  .next ((s.setD false).complete 1)

/-- SED, `imp`, 0xF8 (R225, R83). -/
def execSed (s : State) : Result :=
  .next ((s.setD true).complete 1)

/-- CLV, `imp`, 0xB8 (R226, R83). -/
def execClv (s : State) : Result :=
  .next ((s.setV false).complete 1)

/-- NOP, `imp`, 0xEA (R227, R83). -/
def execNop (s : State) : Result :=
  .next (s.complete 1)

/-- BRK, `imp`, 0x00 (R228, R83). -/
def execBrk (s : State) : Result :=
  .next ((s.complete 1).halt true)

/-- RTI, `imp`, 0x40 (R229, R83). -/
def execRti (s : State) : Result :=
  returnFromInterrupt s

/-- PSEUDO-OP (R230, R97). -/
def execPseudoOp (t : Byte) (s : State) : Result :=
  pseudoOperation t s

end Sys2Proof.Machine
end

