-- ==== Sys2Proof/Machine/LoadStore.lean ====
section
/-! DEFINITION. Loads and stores (40_load_store.md R120 to R125). -/

namespace Sys2Proof.Machine

/-- `v <- Operand(mode); A <- v; setNZ(v)` (R120). -/
def loadA (src : Source) (s : State) : Result :=
  .next (((s.setA (src.value s)).setNZ (src.value s)).complete src.length)

/-- `v <- Operand(mode); X <- v; setNZ(v)` (R121). -/
def loadX (src : Source) (s : State) : Result :=
  .next (((s.setX (src.value s)).setNZ (src.value s)).complete src.length)

/-- `v <- Operand(mode); Y <- v; setNZ(v)` (R122). -/
def loadY (src : Source) (s : State) : Result :=
  .next (((s.setY (src.value s)).setNZ (src.value s)).complete src.length)

/-- `MemWrite(EA(mode), 1, v)`, no flags (R123 to R125). -/
def store (v : Byte) (m : MemMode) (s : State) : Result :=
  .next ((s.poke (m.ea s) v).complete m.length)

/-- LDA, `indx`, 0xA1 (R120, R92). -/
def execLdaIndx (z : Byte) (s : State) : Result :=
  loadA (.mem (.indx z)) s

/-- LDA, `zp`, 0xA5 (R120, R85). -/
def execLdaZp (z : Byte) (s : State) : Result :=
  loadA (.mem (.zp z)) s

/-- LDA, `imm`, 0xA9 (R120, R84). -/
def execLdaImm (v : Byte) (s : State) : Result :=
  loadA (.imm v) s

/-- LDA, `abs`, 0xAD (R120, R88). -/
def execLdaAbs (w : Word) (s : State) : Result :=
  loadA (.mem (.abs w)) s

/-- LDA, `indy`, 0xB1 (R120, R93). -/
def execLdaIndy (z : Byte) (s : State) : Result :=
  loadA (.mem (.indy z)) s

/-- LDA, `zpx`, 0xB5 (R120, R86). -/
def execLdaZpx (z : Byte) (s : State) : Result :=
  loadA (.mem (.zpx z)) s

/-- LDA, `absy`, 0xB9 (R120, R90). -/
def execLdaAbsy (w : Word) (s : State) : Result :=
  loadA (.mem (.absy w)) s

/-- LDA, `absx`, 0xBD (R120, R89). -/
def execLdaAbsx (w : Word) (s : State) : Result :=
  loadA (.mem (.absx w)) s

/-- LDX, `imm`, 0xA2 (R121, R84). -/
def execLdxImm (v : Byte) (s : State) : Result :=
  loadX (.imm v) s

/-- LDX, `zp`, 0xA6 (R121, R85). -/
def execLdxZp (z : Byte) (s : State) : Result :=
  loadX (.mem (.zp z)) s

/-- LDX, `abs`, 0xAE (R121, R88). -/
def execLdxAbs (w : Word) (s : State) : Result :=
  loadX (.mem (.abs w)) s

/-- LDX, `zpy`, 0xB6 (R121, R87). -/
def execLdxZpy (z : Byte) (s : State) : Result :=
  loadX (.mem (.zpy z)) s

/-- LDX, `absy`, 0xBE (R121, R90). -/
def execLdxAbsy (w : Word) (s : State) : Result :=
  loadX (.mem (.absy w)) s

/-- LDY, `imm`, 0xA0 (R122, R84). -/
def execLdyImm (v : Byte) (s : State) : Result :=
  loadY (.imm v) s

/-- LDY, `zp`, 0xA4 (R122, R85). -/
def execLdyZp (z : Byte) (s : State) : Result :=
  loadY (.mem (.zp z)) s

/-- LDY, `abs`, 0xAC (R122, R88). -/
def execLdyAbs (w : Word) (s : State) : Result :=
  loadY (.mem (.abs w)) s

/-- LDY, `zpx`, 0xB4 (R122, R86). -/
def execLdyZpx (z : Byte) (s : State) : Result :=
  loadY (.mem (.zpx z)) s

/-- LDY, `absx`, 0xBC (R122, R89). -/
def execLdyAbsx (w : Word) (s : State) : Result :=
  loadY (.mem (.absx w)) s

/-- STA, `indx`, 0x81 (R123, R92). -/
def execStaIndx (z : Byte) (s : State) : Result :=
  store s.a (.indx z) s

/-- STA, `zp`, 0x85 (R123, R85). -/
def execStaZp (z : Byte) (s : State) : Result :=
  store s.a (.zp z) s

/-- STA, `abs`, 0x8D (R123, R88). -/
def execStaAbs (w : Word) (s : State) : Result :=
  store s.a (.abs w) s

/-- STA, `indy`, 0x91 (R123, R93). -/
def execStaIndy (z : Byte) (s : State) : Result :=
  store s.a (.indy z) s

/-- STA, `zpx`, 0x95 (R123, R86). -/
def execStaZpx (z : Byte) (s : State) : Result :=
  store s.a (.zpx z) s

/-- STA, `absy`, 0x99 (R123, R90). -/
def execStaAbsy (w : Word) (s : State) : Result :=
  store s.a (.absy w) s

/-- STA, `absx`, 0x9D (R123, R89). -/
def execStaAbsx (w : Word) (s : State) : Result :=
  store s.a (.absx w) s

/-- STX, `zp`, 0x86 (R124, R85). -/
def execStxZp (z : Byte) (s : State) : Result :=
  store s.x (.zp z) s

/-- STX, `abs`, 0x8E (R124, R88). -/
def execStxAbs (w : Word) (s : State) : Result :=
  store s.x (.abs w) s

/-- STX, `zpy`, 0x96 (R124, R87). -/
def execStxZpy (z : Byte) (s : State) : Result :=
  store s.x (.zpy z) s

/-- STY, `zp`, 0x84 (R125, R85). -/
def execStyZp (z : Byte) (s : State) : Result :=
  store s.y (.zp z) s

/-- STY, `abs`, 0x8C (R125, R88). -/
def execStyAbs (w : Word) (s : State) : Result :=
  store s.y (.abs w) s

/-- STY, `zpx`, 0x94 (R125, R86). -/
def execStyZpx (z : Byte) (s : State) : Result :=
  store s.y (.zpx z) s

end Sys2Proof.Machine
end

