-- ==== Sys2Proof/Machine/Logical.lean ====
section
/-! DEFINITION. AND, ORA, EOR and BIT (44_logical.md R180 to R183). -/

namespace Sys2Proof.Machine

/-- `A <- r; setNZ(r)` and the advance: the end AND, ORA and EOR share (R180 to R182). -/
def logicResult (r : Byte) (src : Source) (s : State) : Result :=
  .next (((s.setA r).setNZ r).complete src.length)

/-- `r <- A & Operand(mode)` (R180). -/
def andA (src : Source) (s : State) : Result := logicResult (s.a &&& src.value s) src s

/-- `r <- A | Operand(mode)` (R181). -/
def orA (src : Source) (s : State) : Result := logicResult (s.a ||| src.value s) src s

/-- `r <- A ^ Operand(mode)` (R182). -/
def eorA (src : Source) (s : State) : Result := logicResult (s.a ^^^ src.value s) src s

/-- BIT (R183): Z from `A & m`, N and V from bits 7 and 6 of the operand. -/
def bitTest (src : Source) (s : State) : Result :=
  let m := src.value s
  .next ((((s.setZ (decide (s.a &&& m = 0))).setN (m.getLsbD 7)).setV (m.getLsbD 6)).complete src.length)

/-- AND, `indx`, 0x21 (R180, R92). -/
def execAndIndx (z : Byte) (s : State) : Result :=
  andA (.mem (.indx z)) s

/-- AND, `zp`, 0x25 (R180, R85). -/
def execAndZp (z : Byte) (s : State) : Result :=
  andA (.mem (.zp z)) s

/-- AND, `imm`, 0x29 (R180, R84). -/
def execAndImm (v : Byte) (s : State) : Result :=
  andA (.imm v) s

/-- AND, `abs`, 0x2D (R180, R88). -/
def execAndAbs (w : Word) (s : State) : Result :=
  andA (.mem (.abs w)) s

/-- AND, `indy`, 0x31 (R180, R93). -/
def execAndIndy (z : Byte) (s : State) : Result :=
  andA (.mem (.indy z)) s

/-- AND, `zpx`, 0x35 (R180, R86). -/
def execAndZpx (z : Byte) (s : State) : Result :=
  andA (.mem (.zpx z)) s

/-- AND, `absy`, 0x39 (R180, R90). -/
def execAndAbsy (w : Word) (s : State) : Result :=
  andA (.mem (.absy w)) s

/-- AND, `absx`, 0x3D (R180, R89). -/
def execAndAbsx (w : Word) (s : State) : Result :=
  andA (.mem (.absx w)) s

/-- ORA, `indx`, 0x01 (R181, R92). -/
def execOraIndx (z : Byte) (s : State) : Result :=
  orA (.mem (.indx z)) s

/-- ORA, `zp`, 0x05 (R181, R85). -/
def execOraZp (z : Byte) (s : State) : Result :=
  orA (.mem (.zp z)) s

/-- ORA, `imm`, 0x09 (R181, R84). -/
def execOraImm (v : Byte) (s : State) : Result :=
  orA (.imm v) s

/-- ORA, `abs`, 0x0D (R181, R88). -/
def execOraAbs (w : Word) (s : State) : Result :=
  orA (.mem (.abs w)) s

/-- ORA, `indy`, 0x11 (R181, R93). -/
def execOraIndy (z : Byte) (s : State) : Result :=
  orA (.mem (.indy z)) s

/-- ORA, `zpx`, 0x15 (R181, R86). -/
def execOraZpx (z : Byte) (s : State) : Result :=
  orA (.mem (.zpx z)) s

/-- ORA, `absy`, 0x19 (R181, R90). -/
def execOraAbsy (w : Word) (s : State) : Result :=
  orA (.mem (.absy w)) s

/-- ORA, `absx`, 0x1D (R181, R89). -/
def execOraAbsx (w : Word) (s : State) : Result :=
  orA (.mem (.absx w)) s

/-- EOR, `indx`, 0x41 (R182, R92). -/
def execEorIndx (z : Byte) (s : State) : Result :=
  eorA (.mem (.indx z)) s

/-- EOR, `zp`, 0x45 (R182, R85). -/
def execEorZp (z : Byte) (s : State) : Result :=
  eorA (.mem (.zp z)) s

/-- EOR, `imm`, 0x49 (R182, R84). -/
def execEorImm (v : Byte) (s : State) : Result :=
  eorA (.imm v) s

/-- EOR, `abs`, 0x4D (R182, R88). -/
def execEorAbs (w : Word) (s : State) : Result :=
  eorA (.mem (.abs w)) s

/-- EOR, `indy`, 0x51 (R182, R93). -/
def execEorIndy (z : Byte) (s : State) : Result :=
  eorA (.mem (.indy z)) s

/-- EOR, `zpx`, 0x55 (R182, R86). -/
def execEorZpx (z : Byte) (s : State) : Result :=
  eorA (.mem (.zpx z)) s

/-- EOR, `absy`, 0x59 (R182, R90). -/
def execEorAbsy (w : Word) (s : State) : Result :=
  eorA (.mem (.absy w)) s

/-- EOR, `absx`, 0x5D (R182, R89). -/
def execEorAbsx (w : Word) (s : State) : Result :=
  eorA (.mem (.absx w)) s

/-- BIT, `zp`, 0x24 (R183, R85). -/
def execBitZp (z : Byte) (s : State) : Result :=
  bitTest (.mem (.zp z)) s

/-- BIT, `abs`, 0x2C (R183, R88). -/
def execBitAbs (w : Word) (s : State) : Result :=
  bitTest (.mem (.abs w)) s

end Sys2Proof.Machine
end

