-- ==== Sys2Proof/Machine/Shift.lean ====
section
/-! DEFINITION. Shifts and rotates (45_shift_rotate.md R189 to R193). -/

namespace Sys2Proof.Machine

/-- The read-modify-write frame of R189: the result of `f` on the operand and the old carry is stored, then C, N and Z
are written. -/
def shiftRotate (f : Byte → Bool → ShiftOut) (t : Target) (s : State) : Result :=
  let o := f (t.value s) s.flagC
  .next ((((t.store s o.result).setC o.carry).setNZ o.result).complete t.length)

/-- ASL, `zp`, 0x06 (R190, R85). -/
def execAslZp (z : Byte) (s : State) : Result :=
  shiftRotate aslByte (.mem (.zp z)) s

/-- ASL, `acc`, 0x0A (R190, R83). -/
def execAslAcc (s : State) : Result :=
  shiftRotate aslByte .acc s

/-- ASL, `abs`, 0x0E (R190, R88). -/
def execAslAbs (w : Word) (s : State) : Result :=
  shiftRotate aslByte (.mem (.abs w)) s

/-- ASL, `zpx`, 0x16 (R190, R86). -/
def execAslZpx (z : Byte) (s : State) : Result :=
  shiftRotate aslByte (.mem (.zpx z)) s

/-- ASL, `absx`, 0x1E (R190, R89). -/
def execAslAbsx (w : Word) (s : State) : Result :=
  shiftRotate aslByte (.mem (.absx w)) s

/-- LSR, `zp`, 0x46 (R191, R85). -/
def execLsrZp (z : Byte) (s : State) : Result :=
  shiftRotate lsrByte (.mem (.zp z)) s

/-- LSR, `acc`, 0x4A (R191, R83). -/
def execLsrAcc (s : State) : Result :=
  shiftRotate lsrByte .acc s

/-- LSR, `abs`, 0x4E (R191, R88). -/
def execLsrAbs (w : Word) (s : State) : Result :=
  shiftRotate lsrByte (.mem (.abs w)) s

/-- LSR, `zpx`, 0x56 (R191, R86). -/
def execLsrZpx (z : Byte) (s : State) : Result :=
  shiftRotate lsrByte (.mem (.zpx z)) s

/-- LSR, `absx`, 0x5E (R191, R89). -/
def execLsrAbsx (w : Word) (s : State) : Result :=
  shiftRotate lsrByte (.mem (.absx w)) s

/-- ROL, `zp`, 0x26 (R192, R85). -/
def execRolZp (z : Byte) (s : State) : Result :=
  shiftRotate rolByte (.mem (.zp z)) s

/-- ROL, `acc`, 0x2A (R192, R83). -/
def execRolAcc (s : State) : Result :=
  shiftRotate rolByte .acc s

/-- ROL, `abs`, 0x2E (R192, R88). -/
def execRolAbs (w : Word) (s : State) : Result :=
  shiftRotate rolByte (.mem (.abs w)) s

/-- ROL, `zpx`, 0x36 (R192, R86). -/
def execRolZpx (z : Byte) (s : State) : Result :=
  shiftRotate rolByte (.mem (.zpx z)) s

/-- ROL, `absx`, 0x3E (R192, R89). -/
def execRolAbsx (w : Word) (s : State) : Result :=
  shiftRotate rolByte (.mem (.absx w)) s

/-- ROR, `zp`, 0x66 (R193, R85). -/
def execRorZp (z : Byte) (s : State) : Result :=
  shiftRotate rorByte (.mem (.zp z)) s

/-- ROR, `acc`, 0x6A (R193, R83). -/
def execRorAcc (s : State) : Result :=
  shiftRotate rorByte .acc s

/-- ROR, `abs`, 0x6E (R193, R88). -/
def execRorAbs (w : Word) (s : State) : Result :=
  shiftRotate rorByte (.mem (.abs w)) s

/-- ROR, `zpx`, 0x76 (R193, R86). -/
def execRorZpx (z : Byte) (s : State) : Result :=
  shiftRotate rorByte (.mem (.zpx z)) s

/-- ROR, `absx`, 0x7E (R193, R89). -/
def execRorAbsx (w : Word) (s : State) : Result :=
  shiftRotate rorByte (.mem (.absx w)) s

end Sys2Proof.Machine
end

