-- ==== Sys2Proof/Machine/Stack.lean ====
section
/-! DEFINITION. The push and pull instructions (42_stack.md R150 to R153), over `push` and `pull` of 00_scope.md R11. -/

namespace Sys2Proof.Machine

/-- PHA, `imp`, 0x48 (R150, R83). -/
def execPha (s : State) : Result :=
  .next ((s.push s.a).complete 1)

/-- PHP, `imp`, 0x08 (R151, R83). -/
def execPhp (s : State) : Result :=
  .next ((s.push s.statusImage).complete 1)

/-- PLA, `imp`, 0x68 (R152, R83). -/
def execPla (s : State) : Result :=
  .next (((s.pull.setA s.pulled).setNZ s.pulled).complete 1)

/-- PLP, `imp`, 0x28 (R153, R83). -/
def execPlp (s : State) : Result :=
  .next ((s.pull.loadStatus s.pulled).complete 1)

end Sys2Proof.Machine
end

