-- ==== Sys2Proof/Machine/Dispatch.lean ====
section
/-! DEFINITION. The dispatch: one arm per constructor of `Instr`, each one direct call of that instruction's meaning. -/

namespace Sys2Proof.Machine

def exec (i : Instr) (s : State) : Host.Outcome State Fault Refusal :=
  match i with
  | .brk => Sys2Proof.Machine.execBrk s
  | .oraIndx z => Sys2Proof.Machine.execOraIndx z s
  | .oraZp z => Sys2Proof.Machine.execOraZp z s
  | .aslZp z => Sys2Proof.Machine.execAslZp z s
  | .php => Sys2Proof.Machine.execPhp s
  | .oraImm v => Sys2Proof.Machine.execOraImm v s
  | .aslAcc => Sys2Proof.Machine.execAslAcc s
  | .oraAbs w => Sys2Proof.Machine.execOraAbs w s
  | .aslAbs w => Sys2Proof.Machine.execAslAbs w s
  | .bpl d => Sys2Proof.Machine.execBpl d s
  | .oraIndy z => Sys2Proof.Machine.execOraIndy z s
  | .oraZpx z => Sys2Proof.Machine.execOraZpx z s
  | .aslZpx z => Sys2Proof.Machine.execAslZpx z s
  | .clc => Sys2Proof.Machine.execClc s
  | .oraAbsy w => Sys2Proof.Machine.execOraAbsy w s
  | .oraAbsx w => Sys2Proof.Machine.execOraAbsx w s
  | .aslAbsx w => Sys2Proof.Machine.execAslAbsx w s
  | .jsr w => Sys2Proof.Machine.execJsr w s
  | .andIndx z => Sys2Proof.Machine.execAndIndx z s
  | .bitZp z => Sys2Proof.Machine.execBitZp z s
  | .andZp z => Sys2Proof.Machine.execAndZp z s
  | .rolZp z => Sys2Proof.Machine.execRolZp z s
  | .plp => Sys2Proof.Machine.execPlp s
  | .andImm v => Sys2Proof.Machine.execAndImm v s
  | .rolAcc => Sys2Proof.Machine.execRolAcc s
  | .bitAbs w => Sys2Proof.Machine.execBitAbs w s
  | .andAbs w => Sys2Proof.Machine.execAndAbs w s
  | .rolAbs w => Sys2Proof.Machine.execRolAbs w s
  | .bmi d => Sys2Proof.Machine.execBmi d s
  | .andIndy z => Sys2Proof.Machine.execAndIndy z s
  | .andZpx z => Sys2Proof.Machine.execAndZpx z s
  | .rolZpx z => Sys2Proof.Machine.execRolZpx z s
  | .sec => Sys2Proof.Machine.execSec s
  | .andAbsy w => Sys2Proof.Machine.execAndAbsy w s
  | .andAbsx w => Sys2Proof.Machine.execAndAbsx w s
  | .rolAbsx w => Sys2Proof.Machine.execRolAbsx w s
  | .rti => Sys2Proof.Machine.execRti s
  | .eorIndx z => Sys2Proof.Machine.execEorIndx z s
  | .eorZp z => Sys2Proof.Machine.execEorZp z s
  | .lsrZp z => Sys2Proof.Machine.execLsrZp z s
  | .pha => Sys2Proof.Machine.execPha s
  | .eorImm v => Sys2Proof.Machine.execEorImm v s
  | .lsrAcc => Sys2Proof.Machine.execLsrAcc s
  | .jmpAbs w => Sys2Proof.Machine.execJmpAbs w s
  | .eorAbs w => Sys2Proof.Machine.execEorAbs w s
  | .lsrAbs w => Sys2Proof.Machine.execLsrAbs w s
  | .bvc d => Sys2Proof.Machine.execBvc d s
  | .eorIndy z => Sys2Proof.Machine.execEorIndy z s
  | .eorZpx z => Sys2Proof.Machine.execEorZpx z s
  | .lsrZpx z => Sys2Proof.Machine.execLsrZpx z s
  | .cli => Sys2Proof.Machine.execCli s
  | .eorAbsy w => Sys2Proof.Machine.execEorAbsy w s
  | .eorAbsx w => Sys2Proof.Machine.execEorAbsx w s
  | .lsrAbsx w => Sys2Proof.Machine.execLsrAbsx w s
  | .rts => Sys2Proof.Machine.execRts s
  | .adcIndx z => Sys2Proof.Machine.execAdcIndx z s
  | .adcZp z => Sys2Proof.Machine.execAdcZp z s
  | .rorZp z => Sys2Proof.Machine.execRorZp z s
  | .pla => Sys2Proof.Machine.execPla s
  | .adcImm v => Sys2Proof.Machine.execAdcImm v s
  | .rorAcc => Sys2Proof.Machine.execRorAcc s
  | .jmpInd w => Sys2Proof.Machine.execJmpInd w s
  | .adcAbs w => Sys2Proof.Machine.execAdcAbs w s
  | .rorAbs w => Sys2Proof.Machine.execRorAbs w s
  | .bvs d => Sys2Proof.Machine.execBvs d s
  | .adcIndy z => Sys2Proof.Machine.execAdcIndy z s
  | .adcZpx z => Sys2Proof.Machine.execAdcZpx z s
  | .rorZpx z => Sys2Proof.Machine.execRorZpx z s
  | .sei => Sys2Proof.Machine.execSei s
  | .adcAbsy w => Sys2Proof.Machine.execAdcAbsy w s
  | .adcAbsx w => Sys2Proof.Machine.execAdcAbsx w s
  | .rorAbsx w => Sys2Proof.Machine.execRorAbsx w s
  | .staIndx z => Sys2Proof.Machine.execStaIndx z s
  | .styZp z => Sys2Proof.Machine.execStyZp z s
  | .staZp z => Sys2Proof.Machine.execStaZp z s
  | .stxZp z => Sys2Proof.Machine.execStxZp z s
  | .dey => Sys2Proof.Machine.execDey s
  | .txa => Sys2Proof.Machine.execTxa s
  | .styAbs w => Sys2Proof.Machine.execStyAbs w s
  | .staAbs w => Sys2Proof.Machine.execStaAbs w s
  | .stxAbs w => Sys2Proof.Machine.execStxAbs w s
  | .bcc d => Sys2Proof.Machine.execBcc d s
  | .staIndy z => Sys2Proof.Machine.execStaIndy z s
  | .styZpx z => Sys2Proof.Machine.execStyZpx z s
  | .staZpx z => Sys2Proof.Machine.execStaZpx z s
  | .stxZpy z => Sys2Proof.Machine.execStxZpy z s
  | .tya => Sys2Proof.Machine.execTya s
  | .staAbsy w => Sys2Proof.Machine.execStaAbsy w s
  | .txs => Sys2Proof.Machine.execTxs s
  | .staAbsx w => Sys2Proof.Machine.execStaAbsx w s
  | .ldyImm v => Sys2Proof.Machine.execLdyImm v s
  | .ldaIndx z => Sys2Proof.Machine.execLdaIndx z s
  | .ldxImm v => Sys2Proof.Machine.execLdxImm v s
  | .ldyZp z => Sys2Proof.Machine.execLdyZp z s
  | .ldaZp z => Sys2Proof.Machine.execLdaZp z s
  | .ldxZp z => Sys2Proof.Machine.execLdxZp z s
  | .tay => Sys2Proof.Machine.execTay s
  | .ldaImm v => Sys2Proof.Machine.execLdaImm v s
  | .tax => Sys2Proof.Machine.execTax s
  | .ldyAbs w => Sys2Proof.Machine.execLdyAbs w s
  | .ldaAbs w => Sys2Proof.Machine.execLdaAbs w s
  | .ldxAbs w => Sys2Proof.Machine.execLdxAbs w s
  | .bcs d => Sys2Proof.Machine.execBcs d s
  | .ldaIndy z => Sys2Proof.Machine.execLdaIndy z s
  | .ldyZpx z => Sys2Proof.Machine.execLdyZpx z s
  | .ldaZpx z => Sys2Proof.Machine.execLdaZpx z s
  | .ldxZpy z => Sys2Proof.Machine.execLdxZpy z s
  | .clv => Sys2Proof.Machine.execClv s
  | .ldaAbsy w => Sys2Proof.Machine.execLdaAbsy w s
  | .tsx => Sys2Proof.Machine.execTsx s
  | .ldyAbsx w => Sys2Proof.Machine.execLdyAbsx w s
  | .ldaAbsx w => Sys2Proof.Machine.execLdaAbsx w s
  | .ldxAbsy w => Sys2Proof.Machine.execLdxAbsy w s
  | .cpyImm v => Sys2Proof.Machine.execCpyImm v s
  | .cmpIndx z => Sys2Proof.Machine.execCmpIndx z s
  | .cpyZp z => Sys2Proof.Machine.execCpyZp z s
  | .cmpZp z => Sys2Proof.Machine.execCmpZp z s
  | .decZp z => Sys2Proof.Machine.execDecZp z s
  | .iny => Sys2Proof.Machine.execIny s
  | .cmpImm v => Sys2Proof.Machine.execCmpImm v s
  | .dex => Sys2Proof.Machine.execDex s
  | .cpyAbs w => Sys2Proof.Machine.execCpyAbs w s
  | .cmpAbs w => Sys2Proof.Machine.execCmpAbs w s
  | .decAbs w => Sys2Proof.Machine.execDecAbs w s
  | .bne d => Sys2Proof.Machine.execBne d s
  | .cmpIndy z => Sys2Proof.Machine.execCmpIndy z s
  | .cmpZpx z => Sys2Proof.Machine.execCmpZpx z s
  | .decZpx z => Sys2Proof.Machine.execDecZpx z s
  | .cld => Sys2Proof.Machine.execCld s
  | .cmpAbsy w => Sys2Proof.Machine.execCmpAbsy w s
  | .cmpAbsx w => Sys2Proof.Machine.execCmpAbsx w s
  | .decAbsx w => Sys2Proof.Machine.execDecAbsx w s
  | .cpxImm v => Sys2Proof.Machine.execCpxImm v s
  | .sbcIndx z => Sys2Proof.Machine.execSbcIndx z s
  | .cpxZp z => Sys2Proof.Machine.execCpxZp z s
  | .sbcZp z => Sys2Proof.Machine.execSbcZp z s
  | .incZp z => Sys2Proof.Machine.execIncZp z s
  | .inx => Sys2Proof.Machine.execInx s
  | .sbcImm v => Sys2Proof.Machine.execSbcImm v s
  | .nop => Sys2Proof.Machine.execNop s
  | .cpxAbs w => Sys2Proof.Machine.execCpxAbs w s
  | .sbcAbs w => Sys2Proof.Machine.execSbcAbs w s
  | .incAbs w => Sys2Proof.Machine.execIncAbs w s
  | .beq d => Sys2Proof.Machine.execBeq d s
  | .sbcIndy z => Sys2Proof.Machine.execSbcIndy z s
  | .sbcZpx z => Sys2Proof.Machine.execSbcZpx z s
  | .incZpx z => Sys2Proof.Machine.execIncZpx z s
  | .sed => Sys2Proof.Machine.execSed s
  | .sbcAbsy w => Sys2Proof.Machine.execSbcAbsy w s
  | .sbcAbsx w => Sys2Proof.Machine.execSbcAbsx w s
  | .incAbsx w => Sys2Proof.Machine.execIncAbsx w s
  | .pseudoOp t => Sys2Proof.Machine.execPseudoOp t s

end Sys2Proof.Machine
end

