-- ==== Sys2Proof/Machine/Engine.lean ====
section
/-! DEFINITION. The core step, `stepCore()` of 48_host_operations.md R240, and the placing of an instruction where the
next step fetches it. -/

namespace Sys2Proof.Machine

/-- The decoder's reading of the instruction at pc (R240 steps 3 to 5). -/
def State.fetched (s : State) : Except DecodeError Instr :=
  match decode s.params s.fetchBytes with
  | .ok (i, _) => .ok i
  | .error e => .error e

/-- Steps 3 to 10 of R240: fetch, decode, and run the instruction or raise IllegalOpcode (R320). -/
def fetchAndRun (s : State) : Result :=
  match s.fetched with
  | .ok i => exec i s
  | .error _ => .next (s.raise .illegalOpcode (s.peek s.pc))

/-- `stepCore()` (R240), in the rule's order (R325): no step while a refusal or a fault stands, then the code-range halt
(R241 case (c)), then the instruction. The result it returns is `lastResult`. -/
def coreStep (s : State) : Result :=
  if s.refused ≠ none ∨ s.fault ≠ none then .next s.noStep
  else if s.inCode then fetchAndRun s
  else .next (s.halt false)

/-- The code range as it stands if pc lies in it, else the `n` bytes from pc on (log 2). -/
def State.coverPc (s : State) (n : Nat) : State :=
  if s.inCode then s else { s with codeStart := s.pc, codeLen := n }

/-- The state with bytes loaded at pc, no fault and no refusal standing, and pc inside the code range (log 2). -/
def State.placeAtPc (s : State) (bs : List Byte) : State :=
  (((s.setMem (s.mem.load s.pc bs)).setFault none).setRefused none).coverPc bs.length

end Sys2Proof.Machine
end

