-- ==== Sys2Proof/Machine/Step.lean ====
section
/-! DEFINITION. One step of the machine: the core step of 48_host_operations.md R240. -/

namespace Sys2Proof.Machine

/-- One core step (R240). The host operations that call it are in Machine/HostOps.lean. -/
def step (s : State) : Host.Outcome State Fault Refusal := coreStep s

/-- The state with the instruction whose bits are `w`, as decodeTableWord reads them, where the next step fetches: a
stand-in for the load that assemble() does (log 2). -/
def State.withFetchWord (s : State) (nbits w : Nat) : State := s.placeAtPc (tableBytes nbits w)

end Sys2Proof.Machine
end

