-- ==== Sys2Proof/Machine/Assembler.lean ====
section
/-! DEFINITION. The two-pass assembler and its symbol table (49_assembler.md R270 to R283). Source text is a list of
characters and everything is structural recursion on it. -/

namespace Sys2Proof.Machine

/-! ## Characters and lines (R271) -/

/-- Spaces and tabs, the white space of R271 and R274. -/
def isBlank (c : Char) : Bool := c == ' ' || c == '\t'

/-- A letter, `[A-Za-z]`. -/
def isLetter (c : Char) : Bool := ('A'.toNat ≤ c.toNat && c.toNat ≤ 'Z'.toNat) || ('a'.toNat ≤ c.toNat && c.toNat ≤ 'z'.toNat)

/-- A decimal digit. -/
def isDigit (c : Char) : Bool := '0'.toNat ≤ c.toNat && c.toNat ≤ '9'.toNat

/-- A first character of a label name, `[A-Za-z_]` (R272). -/
def isNameStart (c : Char) : Bool := isLetter c || c == '_'

/-- A later character of a label name, `[A-Za-z0-9_]` (R272). -/
def isNameChar (c : Char) : Bool := isNameStart c || isDigit c

/-- The upper-case letter, for the comparisons that ignore case (R273 to R275). -/
def upperChar (c : Char) : Char := if 'a'.toNat ≤ c.toNat && c.toNat ≤ 'z'.toNat then Char.ofNat (c.toNat - 32) else c

/-- Text in upper case. -/
def upperText (t : Text) : Text := t.map upperChar

/-- The value of a hex digit of either case (R275). -/
def hexDigit (c : Char) : Option Nat :=
  let u := upperChar c
  if isDigit u then some (u.toNat - '0'.toNat)
  else if 'A'.toNat ≤ u.toNat && u.toNat ≤ 'F'.toNat then some (u.toNat - 'A'.toNat + 10)
  else none

/-- The lines of a source text: split at each newline; text after the last one is still a line (R271). -/
def splitLines : Text → List Text
  | [] => [[]]
  | c :: cs =>
    if c = '\n' then [] :: splitLines cs
    else match splitLines cs with
      | [] => [[c]]
      | l :: ls => (c :: l) :: ls

/-- Leading white space removed. -/
def trimLeft (t : Text) : Text := t.dropWhile isBlank

/-- Leading and trailing white space removed. -/
def trim (t : Text) : Text := (trimLeft (trimLeft t).reverse).reverse

/-- One trailing carriage return removed (R271 item 1). -/
def dropReturn (t : Text) : Text :=
  match t.reverse with
  | '\r' :: r => r.reverse
  | _ => t

/-- A line less its carriage return, its comment and its outer white space (R271 items 1 to 3). -/
def cleanLine (t : Text) : Text := trim ((dropReturn t).takeWhile (fun c => c != ';'))

/-! ## Labels and instructions (R272, R274) -/

/-- A source line: its number, its text as given, the label it defines, and the rest, blank or one instruction. -/
structure SourceLine where
  number : Nat
  text : Text
  label : Option Text
  body : Text
  deriving DecidableEq, Repr

/-- The label at the head of a cleaned line and the trimmed rest, or no label and the whole line (R272). -/
def splitLabel (t : Text) : Option Text × Text :=
  match t with
  | [] => (none, [])
  | c :: _ =>
    if isNameStart c then
      match t.dropWhile isNameChar with
      | ':' :: rest => (some (t.takeWhile isNameChar), trim rest)
      | _ => (none, t)
    else (none, t)

/-- The line with a number, parsed as far as R272 goes. -/
def sourceLine (number : Nat) (text : Text) : SourceLine :=
  let parts := splitLabel (cleanLine text)
  ⟨number, text, parts.1, parts.2⟩

/-- Lines numbered from `k` on (R271). -/
def numberLines : Nat → List Text → List SourceLine
  | _, [] => []
  | k, t :: ts => sourceLine k t :: numberLines (k + 1) ts

/-- The lines of a source text, numbered from 1 (R271). -/
def sourceLines (source : Text) : List SourceLine := numberLines 1 (splitLines source)

/-- The mnemonic that a word names, compared without case (R274). -/
def findMnemonic (word : Text) : Option Mnemonic := Mnemonic.all.find? (fun m => m.name == upperText word)

/-- The mnemonic's letters, and the operand with every space and tab removed (R274). -/
def splitBody (body : Text) : Text × Text := (body.takeWhile isLetter, (body.dropWhile isLetter).filter (fun c => !isBlank c))

/-! ## Operands (R275, R276) -/

/-- A value: `$` and hex digits, with how many there are, or a label reference (R275). -/
inductive ValueExpr where
  | hex (digits : Nat) (value : Nat)
  | label (name : Text)
  deriving DecidableEq, Repr

/-- The operand forms of R275. The immediate and the zero-page indirect forms carry whether the value is in range. -/
inductive OperandForm where
  | empty
  | accumulator
  | immediate (value : Nat) (inRange : Bool)
  | plain (v : ValueExpr)
  | xIndexed (v : ValueExpr)
  | yIndexed (v : ValueExpr)
  | indirect (v : ValueExpr)
  | preIndexed (value : Nat) (inRange : Bool)
  | postIndexed (value : Nat) (inRange : Bool)
  deriving DecidableEq, Repr

/-- The number that hex digits write, if all of them are hex digits. -/
def hexValue : Nat → Text → Option Nat
  | acc, [] => some acc
  | acc, c :: cs =>
    match hexDigit c with
    | some d => hexValue (16 * acc + d) cs
    | none => none

/-- The number that decimal digits write, if all of them are decimal digits. -/
def decValue : Nat → Text → Option Nat
  | acc, [] => some acc
  | acc, c :: cs => if isDigit c then decValue (10 * acc + (c.toNat - '0'.toNat)) cs else none

/-- `$` and one or more hex digits: the digit count and the value (R275). -/
def parseHex (t : Text) : Option (Nat × Nat) :=
  match t with
  | '$' :: d :: ds => (hexValue 0 (d :: ds)).map (fun v => ((d :: ds).length, v))
  | _ => none

/-- A label name on its own (R275). -/
def isName (t : Text) : Bool :=
  match t with
  | [] => false
  | c :: cs => isNameStart c && cs.all isNameChar

/-- The value `V` of R275. -/
def parseValue (t : Text) : Option ValueExpr :=
  match parseHex t with
  | some (n, v) => some (.hex n v)
  | none => if isName t then some (.label t) else none

/-- What follows `#` (R275): 1 or 2 hex digits, or 1 to 3 decimal digits up to 255; 3 or more hex digits, or a decimal
above 255, is out of range; 4 or more decimal digits of a value up to 255 are no form (log 12). -/
def parseImmediate (t : Text) : Option OperandForm :=
  match parseHex t with
  | some (n, v) => some (.immediate v (decide (n ≤ 2)))
  | none =>
    match t with
    | [] => none
    | _ =>
      match decValue 0 t with
      | none => none
      | some v =>
        if 255 < v then some (.immediate v false)
        else if t.length ≤ 3 then some (.immediate v true)
        else none

/-- The value inside a zero-page indirect form (R275): 1 or 2 hex digits; a value above 0xFF is out of range; 3 or more
digits of a value up to 0xFF are no form (log 13). -/
def parseZeroPage (t : Text) : Option (Nat × Bool) :=
  match parseHex t with
  | none => none
  | some (n, v) => if 0xFF < v then some (v, false) else if n ≤ 2 then some (v, true) else none

/-- The text before a suffix, compared in upper case, if the text ends in it. -/
def beforeSuffix (t suffix : Text) : Option Text :=
  let n := t.length - suffix.length
  if upperText (t.drop n) = suffix then some (t.take n) else none

/-- The forms that begin with `(` (R275), given what follows it. -/
def parseParens (t : Text) : Option OperandForm :=
  match beforeSuffix t [',', 'X', ')'] with
  | some u => (parseZeroPage u).map (fun r => .preIndexed r.1 r.2)
  | none =>
    match beforeSuffix t [')', ',', 'Y'] with
    | some u => (parseZeroPage u).map (fun r => .postIndexed r.1 r.2)
    | none =>
      match beforeSuffix t [')'] with
      | some u => (parseValue u).map .indirect
      | none => none

/-- The operand form (R275); `none` is InvalidAddressingMode. The operand `A` of either case fits two rows of R275, `A` and
plain (a label of that name); the accumulator row wins here. DESIGN CHOICE, unsafe for a statement about such an operand
(log 21). -/
def parseOperand (t : Text) : Option OperandForm :=
  match t with
  | [] => some .empty
  | '#' :: rest => parseImmediate rest
  | '(' :: rest => parseParens rest
  | _ =>
    if upperText t = ['A'] then some .accumulator
    else
      match beforeSuffix t [',', 'X'] with
      | some u => (parseValue u).map .xIndexed
      | none =>
        match beforeSuffix t [',', 'Y'] with
        | some u => (parseValue u).map .yIndexed
        | none => (parseValue t).map .plain

/-- The short class: `$` with 1 or 2 digits (R275). A label is of the long class. -/
def ValueExpr.isShort : ValueExpr → Bool
  | .hex digits _ => decide (digits ≤ 2)
  | .label _ => false

/-- The modes tried for a form, in order (R276). -/
def OperandForm.modes : OperandForm → List Mode
  | .empty => [.acc, .imp]
  | .accumulator => [.acc]
  | .immediate _ _ => [.imm]
  | .plain v => if v.isShort then [.zp, .abs, .rel] else [.abs, .rel]
  | .xIndexed v => if v.isShort then [.zpx, .absx] else [.absx]
  | .yIndexed v => if v.isShort then [.zpy, .absy] else [.absy]
  | .indirect _ => [.ind]
  | .preIndexed _ _ => [.indx]
  | .postIndexed _ _ => [.indy]

/-- The first row of the opcode table that the mnemonic has among the modes (R276). -/
def selectRow (mn : Mnemonic) : List Mode → Option Row
  | [] => none
  | m :: ms =>
    match rowFor mn m with
    | some r => some r
    | none => selectRow mn ms

/-- A line's instruction as far as parsing alone goes: its row and its form, or the first error of R282 among
UnknownMnemonic and InvalidAddressingMode. -/
def parseBody (body : Text) : Except AsmErrorKind (Row × OperandForm) :=
  let parts := splitBody body
  match findMnemonic parts.1 with
  | none => .error .unknownMnemonic
  | some mn =>
    match parseOperand parts.2 with
    | none => .error .invalidAddressingMode
    | some form =>
      match selectRow mn form.modes with
      | none => .error .invalidAddressingMode
      | some row => .ok (row, form)

/-- A value whose literal is in range: a hex value up to 0xFFFF; a label's value is not known here (R275). -/
def ValueExpr.literalInRange : ValueExpr → Bool
  | .hex _ v => decide (v ≤ 0xFFFF)
  | .label _ => true

/-- The operand's literal is in range (R275, R282). -/
def OperandForm.literalInRange : OperandForm → Bool
  | .empty | .accumulator => true
  | .immediate _ ok | .preIndexed _ ok | .postIndexed _ ok => ok
  | .plain v | .xIndexed v | .yIndexed v | .indirect v => v.literalInRange

/-- A line's length in pass 1 (R277): its mode's length; 0 for a blank line and for a line whose mnemonic or operand is
in error by parsing alone (log 14). -/
def SourceLine.length (l : SourceLine) : Nat :=
  if l.body = [] then 0
  else
    match parseBody l.body with
    | .ok (row, form) => if form.literalInRange then row.length else 0
    | .error _ => 0

/-! ## Pass 1 (R278) and the symbol table (R279) -/

/-- The address of a name (R279). -/
def findSymbol (table : SymbolTable) (name : Text) : Option Nat := (table.find? (fun e => e.1 == name)).map Prod.snd

/-- The name is reserved, compared without case (R273). -/
def isReserved (ps : Params) (name : Text) : Bool := ps.reservedSymbols.any (fun r => upperText r == upperText name)

/-- The error a line makes in this way. -/
def SourceLine.error (l : SourceLine) (kind : AsmErrorKind) : AsmError := ⟨kind, l.number, l.text⟩

/-- Pass 1 from a counter value on (R278). -/
def pass1 (ps : Params) : List SourceLine → Nat → SymbolTable → Except AsmError SymbolTable
  | [], _, table => .ok table
  | l :: ls, pc1, table =>
    match l.label with
    | none => pass1 ps ls (pc1 + l.length) table
    | some name =>
      if isReserved ps name then .error (l.error .labelShadowsSymbol)
      else if (findSymbol table name).isSome then .error (l.error .duplicateLabel)
      else pass1 ps ls (pc1 + l.length) (table ++ [(name, pc1)])

/-! ## Pass 2 (R280, R281) -/

/-- A value resolved: a literal, or the label's address (R281); errors in the order of R282. -/
def resolveValue (table : SymbolTable) : ValueExpr → Except AsmErrorKind Nat
  | .hex _ v => if v ≤ 0xFFFF then .ok v else .error .operandOutOfRange
  | .label name =>
    match findSymbol table name with
    | none => .error .undefinedLabel
    | some v => if v ≤ 0xFFFF then .ok v else .error .operandOutOfRange

/-- The operand's value; 0 for a form that has none. -/
def resolveOperand (table : SymbolTable) : OperandForm → Except AsmErrorKind Nat
  | .empty | .accumulator => .ok 0
  | .immediate v ok | .preIndexed v ok | .postIndexed v ok => if ok then .ok v else .error .operandOutOfRange
  | .plain v | .xIndexed v | .yIndexed v | .indirect v => resolveValue table v

/-- The operand bytes of a value in a mode, for an instruction at `pc2` (R281): a branch's displacement is an integer
with no wrap, and must lie in -128..127. -/
def operandBytes (m : Mode) (pc2 value : Nat) : Except AsmErrorKind (List Byte) :=
  match m with
  | .imp | .acc => .ok []
  | .imm | .zp | .zpx | .zpy | .indx | .indy => .ok [BitVec.ofNat 8 value]
  | .abs | .absx | .absy | .ind => .ok [loByte (BitVec.ofNat 16 value), hiByte (BitVec.ofNat 16 value)]
  | .rel =>
    let d : Int := (value : Int) - ((pc2 : Int) + 2)
    if -128 ≤ d ∧ d ≤ 127 then .ok [BitVec.ofInt 8 d] else .error .operandOutOfRange

/-- The bytes of a line's instruction at `pc2` (R280 steps 1 to 4): opcode, then operand bytes. -/
def lineBytes (table : SymbolTable) (body : Text) (pc2 : Nat) : Except AsmErrorKind (List Byte) :=
  match parseBody body with
  | .error k => .error k
  | .ok (row, form) =>
    match resolveOperand table form with
    | .error k => .error k
    | .ok value =>
      match operandBytes row.mode pc2 value with
      | .error k => .error k
      | .ok operands =>
        if 0x10000 < pc2 + row.length then .error .operandOutOfRange else .ok (row.opcode :: operands)

/-- Bytes written from an address on, each by `set` with its `changed` (R280 step 5). -/
def State.writeBytes (s : State) : Nat → List Byte → State
  | _, [] => s
  | a, b :: bs => State.writeBytes (s.poke (BitVec.ofNat 16 a) b) (a + 1) bs

/-- Pass 2 from a counter value on (R280): the state with the bytes written so far, and the counter at the end or the
first error. Memory is not rolled back (R283). -/
def pass2 (table : SymbolTable) : List SourceLine → Nat → State → Except AsmError Nat × State
  | [], pc2, s => (.ok pc2, s)
  | l :: ls, pc2, s =>
    if l.body = [] then pass2 table ls pc2 s
    else
      match lineBytes table l.body pc2 with
      | .error k => (.error (l.error k), s)
      | .ok bytes => pass2 table ls (pc2 + bytes.length) (s.writeBytes pc2 bytes)

/-! ## The operation (R283) -/

/-- What `assemble` returns (R270, R283). -/
inductive AsmOutcome where
  | success (len : Nat)
  | failure (error : AsmError)
  | rejected
  deriving DecidableEq, Repr

/-- The registers and the engine control fields at their reset values; memory, the code range, the table and the events
as they are (10_state.md R44). Shared by `reset()` and `assemble()`. -/
def State.resetRegisters (s : State) : State :=
  { s with
    a := 0x00, x := 0x00, y := 0x00, sp := 0xFF, p := 0x20, pc := s.params.origin
    fault := none, refused := none, stopRequested := false
    breakLatch := none, breakpointHit := false, debuggerEnabled := false }

/-- Step 1 of R283: memory zero with no event, reset values, an empty table, no code. -/
def State.assembleReset (s : State) : State :=
  { s.memoryReset.resetRegisters with
    runState := .initialized, symbols := [], codeStart := s.params.origin, codeLen := 0, codeValid := false }

/-- The `labels-failure` and `assemble-failure` events (R39, R283). -/
def State.emitLabelsFailure (s : State) (e : AsmError) : State := s.addEvent (.labelsFailure e s.nextText)
/-- The `assemble-failure` event (R283). -/
def State.emitAssembleFailure (s : State) (e : AsmError) : State := s.addEvent (.assembleFailure e s.nextText)
/-- The `labels-info` event, which carries the label count (R283). -/
def State.emitLabelsInfo (s : State) (count : Nat) : State := s.addEvent (.labelsInfo count s.nextText)

/-- Steps 3 to 5 of R283, once pass 1 has given the table. -/
def assemblePass2 (table : SymbolTable) (lines : List SourceLine) (s : State) : AsmOutcome × State :=
  let origin := s.params.origin.toNat
  match pass2 table lines origin ({ s with symbols := table }.emitLabelsInfo table.length) with
  | (.error e, t) => (.failure e, { t with symbols := [], runState := .initialized }.emitAssembleFailure e)
  | (.ok pc2, t) =>
    (.success (pc2 - origin),
      { t with codeLen := pc2 - origin, codeValid := true, runState := .ready }.addEvent .assembleSuccess)

/-- `assemble(source)` (R270, R283). -/
def assemble (source : Text) (s : State) : AsmOutcome × State :=
  if s.runState = .running then (.rejected, s)
  else
    let lines := sourceLines source
    let t := s.assembleReset
    match pass1 t.params lines t.params.origin.toNat [] with
    | .error e => (.failure e, (t.emitLabelsFailure e).emitAssembleFailure e)
    | .ok table => assemblePass2 table lines t

end Sys2Proof.Machine
end

