-- ==== Sys2Proof/Machine/Disassembler.lean ====
section
/-! DEFINITION. The disassembler and the hex dump (49_assembler.md R290 to R293). Both only read memory. -/

namespace Sys2Proof.Machine

/-- An upper-case hex digit. -/
def hexChar (n : Nat) : Char := if n < 10 then Char.ofNat ('0'.toNat + n) else Char.ofNat ('A'.toNat + (n - 10))

/-- A byte as 2 upper-case hex digits (R292). -/
def hexByte (b : Byte) : Text := [hexChar (b.toNat / 16), hexChar (b.toNat % 16)]

/-- A word as 4 upper-case hex digits (R292). -/
def hexWord (w : Word) : Text := hexByte (hiByte w) ++ hexByte (loByte w)

/-- The first-defined label with a value (R292). -/
def labelAt (table : SymbolTable) (value : Nat) : Option Text := (table.find? (fun e => e.2 == value)).map Prod.fst

/-- An address in an operand string: its first-defined label, else `$HHHH` (R292). -/
def addressText (table : SymbolTable) (w : Word) : Text :=
  match labelAt table w.toNat with
  | some name => name
  | none => '$' :: hexWord w

/-- The decoded operand of a mode, for an instruction at `a` with operand bytes `b1`, `b2`. R291 names the field and no
rule says what it holds in a mode: here none for imp and acc, the byte extended with zeros or the word, and for rel the
target, which R292 displays, not the displacement. DESIGN CHOICE, unsafe for a statement about that field (log 22). -/
def decodedOperand (m : Mode) (a : Nat) (b1 b2 : Byte) : Option Word :=
  match m with
  | .imp | .acc => none
  | .imm | .zp | .zpx | .zpy | .indx | .indy => some (zext16 b1)
  | .abs | .absx | .absy | .ind => some (wordOf b2 b1)
  | .rel => some (BitVec.ofNat 16 (a + 2) + sext16 b1)

/-- The operand string of a mode (R292). -/
def operandText (table : SymbolTable) (m : Mode) (a : Nat) (b1 b2 : Byte) : Text :=
  let short := '$' :: hexByte b1
  let long := addressText table (wordOf b2 b1)
  match m with
  | .imp => []
  | .acc => ['A']
  | .imm => '#' :: short
  | .zp => short
  | .zpx => short ++ [',', 'X']
  | .zpy => short ++ [',', 'Y']
  | .abs => long
  | .absx => long ++ [',', 'X']
  | .absy => long ++ [',', 'Y']
  | .ind => '(' :: (long ++ [')'])
  | .indx => '(' :: (short ++ [',', 'X', ')'])
  | .indy => '(' :: (short ++ [')', ',', 'Y'])
  | .rel => addressText table (BitVec.ofNat 16 (a + 2) + sext16 b1)

/-- The full-instruction string (R291). -/
def fullText (mnemonic operand : Text) : Text := if operand = [] then mnemonic else mnemonic ++ ' ' :: operand

/-- `get((a + i) mod 65536)`, `i < n` (R290). -/
def State.bytesAt (s : State) (a : Nat) : Nat → List Byte
  | 0 => []
  | n + 1 => s.peek (BitVec.ofNat 16 a) :: s.bytesAt (a + 1) n

/-- The record of a table row's instruction at `a` (R290, R291). -/
def instrRecord (s : State) (a : Nat) (row : Row) : DisasmRecord :=
  let b1 := s.peek (BitVec.ofNat 16 (a + 1))
  let b2 := s.peek (BitVec.ofNat 16 (a + 2))
  let opText := operandText s.symbols row.mode a b1 b2
  { address := a, bytes := s.bytesAt a row.length, mnemonic := row.mnemonic.name, mode := some row.mode
    operand := decodedOperand row.mode a b1 b2, operandText := opText
    fullText := fullText row.mnemonic.name opText, label := labelAt s.symbols a }

/-- The record of a pseudo-op at `a`: `PSEUDO $HH` (R291). Its mode is the table's, an immediate type byte (R97; log 15),
and its decoded operand is the type byte (DESIGN CHOICE, log 22). -/
def pseudoRecord (s : State) (a : Nat) : DisasmRecord :=
  let t := s.peek (BitVec.ofNat 16 (a + 1))
  let opText := '$' :: hexByte t
  { address := a, bytes := s.bytesAt a 2, mnemonic := ['P', 'S', 'E', 'U', 'D', 'O'], mode := some .imm
    operand := some (zext16 t), operandText := opText
    fullText := fullText ['P', 'S', 'E', 'U', 'D', 'O'] opText, label := labelAt s.symbols a }

/-- The data record of an unknown byte at `a`: `.byte $HH`, no mode (R290, R291). R291 gives it no decoded operand; the
record holds the byte there. DESIGN CHOICE, unsafe for a statement about that field (log 22). -/
def dataRecord (s : State) (a : Nat) : DisasmRecord :=
  let b := s.peek (BitVec.ofNat 16 a)
  let opText := '$' :: hexByte b
  { address := a, bytes := [b], mnemonic := ['.', 'b', 'y', 't', 'e'], mode := none
    operand := some (zext16 b), operandText := opText
    fullText := fullText ['.', 'b', 'y', 't', 'e'] opText, label := labelAt s.symbols a }

/-- The walk of R290 from `a`, with at most `fuel` records: PSEUDO_OP first, then the table; an unknown byte ends it. -/
def walk (s : State) (stop : Nat) : Nat → Nat → List DisasmRecord
  | 0, _ => []
  | fuel + 1, a =>
    if a < stop then
      let op := s.peek (BitVec.ofNat 16 a)
      if op = s.params.pseudoOp then pseudoRecord s a :: walk s stop fuel (a + 2)
      else
        match lookup op with
        | some row => instrRecord s a row :: walk s stop fuel (a + row.length)
        | none => [dataRecord s a]
    else []

/-- The records of `disassemble(start, end)` (R290). Every record advances by at least one byte, so `end - start` of
them are enough. -/
def State.disassembly (s : State) (start stop : Nat) : List DisasmRecord := walk s stop (stop - start) start

/-- The operation `disassemble(start, end)` (R291): one event, nothing else changes (20_memory.md R72). -/
def disassemble (start stop : Nat) (s : State) : State := s.addEvent (.disassembly (s.disassembly start stop))

/-- One row of a hex dump: the address, a colon, then for each byte a space and 2 digits (R293). -/
def State.hexRow (s : State) (a n : Nat) : Text :=
  hexWord (BitVec.ofNat 16 a) ++ ':' :: (s.bytesAt a n).flatMap (fun b => ' ' :: hexByte b)

/-- The rows of a hex dump, 16 bytes each but the last (R293). -/
def State.hexRows (s : State) : Nat → Nat → Nat → List Text
  | 0, _, _ => []
  | fuel + 1, a, n =>
    if n = 0 then []
    else if n ≤ 16 then [s.hexRow a n]
    else s.hexRow a 16 :: s.hexRows fuel (a + 16) (n - 16)

/-- Lines joined by newlines. -/
def joinLines : List Text → Text
  | [] => []
  | [l] => l
  | l :: ls => l ++ '\n' :: joinLines ls

/-- The text of `hexdump(start, length)` (R293). -/
def State.hexText (s : State) (start len : Nat) : Text := joinLines (s.hexRows len start len)

/-- The operation `hexdump(start, length)` (R293): one event, nothing else changes (20_memory.md R72). -/
def hexdump (start len : Nat) (s : State) : State := s.addEvent (.hexdump (s.hexText start len))

end Sys2Proof.Machine
end

