-- ==== Sys2Proof/Machine/HostOps.lean ====
section
/-! DEFINITION. The host operations (48_host_operations.md R243 to R249, 70_reset_and_hazards.md R351), the host's
input writes (20_memory.md R61), and the fan-out of notifications (R252). What the host is free to choose (batch sizes,
input writes, whether a listener called stop) is an argument (log 8). -/

namespace Sys2Proof.Machine

/-- What a host operation returns. -/
inductive Reply where
  /-- The precondition failed: nothing changed, no event (R249). -/
  | rejected
  /-- The operation was carried out, or is a no-op in this state (R245). -/
  | done
  /-- The result of `step()` (R248). -/
  | stepped (r : StepResult)
  /-- The count `multiStep` returns (R243). -/
  | count (n : Nat)
  /-- The outcome of `assemble` (R283). -/
  | assembled (o : AsmOutcome)
  deriving DecidableEq, Repr

/-- The state after one core step. The step answers a next state in every state (Laws/Engine.lean, `coreStep_next`);
were it to stop, nothing would change. -/
def afterStep (s : State) : State :=
  match step s with
  | .next t => t
  | .fault _ => s
  | .refused _ => s

/-- `stop()` (R245): it sets the request while Running, and has no effect in any other state. -/
def hostStop (s : State) : State := if s.runState = .running then { s with stopRequested := true } else s

/-- `reset()` (R351). -/
def hostReset (s : State) : Reply × State :=
  if s.runState = .running then (.rejected, s)
  else
    let t := s.resetRegisters
    (.done, (t.setRunState (if t.codeValid then .ready else .initialized)).emit .reset)

/-- `goto(address)` (R246). -/
def hostGoto (a : Word) (s : State) : Reply × State :=
  if s.runState = .ready ∨ s.runState = .debuggingPaused ∨ s.runState = .stopped then
    (.done, (s.setPc a).emit .goto)
  else (.rejected, s)

/-- `enableDebugger()` (R247): in Ready at once; in Running it acts at the next batch boundary as a breakpoint does
(log 10). -/
def hostEnableDebugger (s : State) : Reply × State :=
  if s.runState = .ready then (.done, { s with debuggerEnabled := true, runState := .debuggingPaused })
  else if s.runState = .running then (.done, { s with breakpointHit := true })
  else (.rejected, s)

/-- `disableDebugger()` (R247). -/
def hostDisableDebugger (s : State) : Reply × State :=
  if s.runState = .debuggingPaused then (.done, { s with debuggerEnabled := false, runState := .ready })
  else (.rejected, s)

/-- The end of a debug step or batch: back to DebuggingPaused unless it halted or faulted (R243, R248). -/
def State.leaveDebugging (s : State) : State :=
  if s.runState = .debugging then s.setRunState .debuggingPaused else s

/-- The host's `step()` (R248). Breakpoints are not checked. `breakLatch` is cleared on `Executed` only, as R248 says. -/
def hostStep (s : State) : Reply × State :=
  if s.runState = .debuggingPaused then
    let t := afterStep (s.setRunState .debugging)
    let u := if t.lastResult = .executed then { t with breakLatch := none } else t
    (.stepped t.lastResult, u.leaveDebugging.emit .step)
  else (.rejected, s)

/-- The events that a core step emits before it can leave Running: those of writes, stack warnings and the pseudo-op
(R251). -/
def Event.beforeEnd : Event → Bool
  | .changed _ _ => true
  | .engine (.pseudoOp _) _ _ => true
  | .engine (.simulatorInfo (.stackOverflow _ _)) _ _ => true
  | _ => false

/-- One core step of a batch, with whether a listener calls `stop()` on one of the notifications delivered during it
(20_memory.md R70, R71; R245; log 8). The request is read only between instructions (R243), so where in the instruction
it is made does not matter; a listener has no occasion where nothing is delivered. -/
def stepHeard (listenerStops : Bool) (s : State) : State :=
  let t := afterStep s
  if listenerStops && decide (s.runState = .running) && (t.events.drop s.events.length).any Event.beforeEnd then
    { t with stopRequested := true }
  else t

/-- The loop of `multiStep` (R243) with `budget - n` instructions left: the number executed, and the state. The k-th
entry of `stops` says whether a listener calls `stop()` during the k-th core step; a missing entry is no. `breakLatch` is
cleared on `Executed`, as R243's pseudocode has it, and kept on `Halted(executed = true)`, where its prose and R242 can be
read otherwise. DESIGN CHOICE, unsafe only for a statement about the latch in Completed (log 20). -/
def batchLoop : Nat → List Bool → State → Nat × State
  | 0, _, s => (0, s)
  | left + 1, stops, s =>
    if s.stopRequested then (0, s)
    else if s.params.breakpoints.contains s.pc ∧ s.breakLatch ≠ some s.pc then
      (0, { s with breakLatch := some s.pc, breakpointHit := true })
    else
      let t := stepHeard (stops.headD false) s
      match t.lastResult with
      | .executed =>
        let r := batchLoop left stops.tail { t with breakLatch := none }
        (r.1 + 1, r.2)
      | .halted true => (1, t)
      | _ => (0, t)

/-- `multiStep(budget)` (R243). -/
def multiStep (stops : List Bool) (budget : Nat) (s : State) : Reply × State :=
  if s.runState = .running ∨ (s.runState = .debuggingPaused ∧ s.debuggerEnabled = true) then
    let t := if s.runState = .debuggingPaused then s.setRunState .debugging else s
    let r := batchLoop budget stops t
    (.count r.1, r.2.leaveDebugging.emit .multistep)
  else (.rejected, s)

/-- The start of `run()` (R244). -/
def hostRun (s : State) : Reply × State :=
  if s.runState = .ready then
    (.done, { s with runState := .running, stopRequested := false, breakpointHit := false }.emit .start)
  else (.rejected, s)

/-- What `run()` does at a batch boundary (R244): the first case that applies. A run that is over, Completed or Stopped,
is left as it is. -/
def runBoundary (s : State) : State :=
  if s.runState = .running then
    if s.stopRequested then { s with runState := .stopped, stopRequested := false }.emit .stop
    else if s.breakpointHit then
      { s with runState := .debuggingPaused, debuggerEnabled := true, breakpointHit := false }
    else s
  else s

/-- A host input write, `set(a, v)` for an address in HOST_INPUT_ADDRS (20_memory.md R61, R253). The host has no other
move, so any other address is rejected. -/
def hostWrite (a : Word) (v : Nat) (s : State) : Reply × State :=
  if s.params.hostInputAddrs.contains a then (.done, s.memSet a v) else (.rejected, s)

/-- What the host may do between two batches of a run (R253). -/
inductive BetweenBatches where
  | write (a : Word) (v : Nat)
  | stop
  | enableDebugger
  deriving DecidableEq, Repr

/-- One such action. -/
def betweenBatches : BetweenBatches → State → State
  | .write a v, s => (hostWrite a v s).2
  | .stop, s => hostStop s
  | .enableDebugger, s => (hostEnableDebugger s).2

/-- One round of a run: a batch of `size` instructions, at least 1 (R244, 70_reset_and_hazards.md R361), then what the
host does before the boundary (log 9). -/
structure Round where
  size : Nat
  listenerStops : List Bool
  actions : List BetweenBatches
  size_pos : 1 ≤ size := by decide
  deriving DecidableEq, Repr

/-- A round while Running: the batch, the host's actions, the boundary (R244). -/
def runRound (r : Round) (s : State) : State :=
  runBoundary (r.actions.foldl (fun t act => betweenBatches act t) (multiStep r.listenerStops r.size s).2)

/-- Rounds until the run is over or there is none left (R244): a run that has left Running takes no further batch. -/
def runRounds : List Round → State → State
  | [], s => s
  | r :: rs, s => if s.runState = .running then runRounds rs (runRound r s) else s

/-- `run()` with the rounds the host goes through (R244). -/
def run (rounds : List Round) (s : State) : Reply × State :=
  match hostRun s with
  | (.rejected, t) => (.rejected, t)
  | (reply, t) => (reply, runRounds rounds t)

/-- Everything the host can do (R253). `batch` and `boundary` are the two parts of a round, apart. -/
inductive HostAction where
  | assemble (source : Text)
  | reset
  | run
  | batch (listenerStops : List Bool) (size : Nat)
  | boundary
  | stop
  | step
  | multiStep (listenerStops : List Bool) (budget : Nat)
  | goto (a : Word)
  | enableDebugger
  | disableDebugger
  | write (a : Word) (v : Nat)
  | disassemble (range : Option (Nat × Nat))
  | hexdump (range : Option (Nat × Nat))
  deriving DecidableEq, Repr

/-- One host operation: what it returns and the state it leaves. `batch` is a `multiStep` that `run()` makes, so it is
rejected unless Running and its size at least 1 (R244). With no range given, the disassembler and the hex dump take the
code range (R290, R293). -/
def hostDo : HostAction → State → Reply × State
  | .assemble source, s =>
    match assemble source s with
    | (.rejected, t) => (.rejected, t)
    | (o, t) => (.assembled o, t)
  | .reset, s => hostReset s
  | .run, s => hostRun s
  | .batch stops size, s => if s.runState = .running ∧ 1 ≤ size then multiStep stops size s else (.rejected, s)
  | .boundary, s => (.done, runBoundary s)
  | .stop, s => (.done, hostStop s)
  | .step, s => hostStep s
  | .multiStep stops budget, s => multiStep stops budget s
  | .goto a, s => hostGoto a s
  | .enableDebugger, s => hostEnableDebugger s
  | .disableDebugger, s => hostDisableDebugger s
  | .write a v, s => hostWrite a v s
  | .disassemble (some r), s => (.done, disassemble r.1 r.2 s)
  | .disassemble none, s => (.done, disassemble s.codeStart.toNat (s.codeStart.toNat + s.codeLen) s)
  | .hexdump (some r), s => (.done, hexdump r.1 r.2 s)
  | .hexdump none, s => (.done, hexdump s.codeStart.toNat s.codeLen s)

/-- The kind an event is delivered under (R39, R252). -/
def Event.kind : Event → EventKind
  | .changed _ _ => .changed
  | .engine .start _ _ => .start
  | .engine .step _ _ => .step
  | .engine .multistep _ _ => .multistep
  | .engine .reset _ _ => .reset
  | .engine .stop _ _ => .stop
  | .engine .goto _ _ => .goto
  | .engine (.pseudoOp _) _ _ => .pseudoOp
  | .engine (.simulatorInfo _) _ _ => .simulatorInfo
  | .engine (.simulatorFailure _) _ _ => .simulatorFailure
  | .assembleSuccess => .assembleSuccess
  | .assembleFailure _ _ => .assembleFailure
  | .assembleInfo _ => .assembleInfo
  | .labelsInfo _ _ => .labelsInfo
  | .labelsFailure _ _ => .labelsFailure
  | .hexdump _ => .hexdump
  | .disassembly _ => .disassembly

/-- The calls that listeners registered in an order receive for a sequence of events: for each event in emission order,
each listener of its kind in registration order (20_memory.md R71, R252). -/
def deliveries (listeners : List (Nat × EventKind)) (es : List Event) : List (Nat × Event) :=
  es.flatMap (fun e => (listeners.filter (fun l => decide (l.2 = e.kind))).map (fun l => (l.1, e)))

end Sys2Proof.Machine
end

