-- ==== Sys2Proof/Safety.lean ====
section
/-! DEFINITION. The terms that claims use: the registers, the flags and the control state as views of the state, what
it is for an instruction to complete with a given effect, the invariants, the states a host can reach
(48_host_operations.md R253), and the end of a run (R254). -/

namespace Sys2Proof.Machine

/-- The registers but P (10_state.md R20 to R24). -/
structure Regs where
  a : Byte
  x : Byte
  y : Byte
  sp : Byte
  pc : Word
  deriving DecidableEq, Repr

/-- The registers of a state. -/
def State.regs (s : State) : Regs := ⟨s.a, s.x, s.y, s.sp, s.pc⟩

/-- The eight bits of P (R25). -/
structure Flags where
  n : Bool
  v : Bool
  u : Bool
  b : Bool
  d : Bool
  i : Bool
  z : Bool
  c : Bool
  deriving DecidableEq, Repr

/-- The flags of a state: all of P. -/
def State.flags (s : State) : Flags :=
  ⟨s.flagN, s.flagV, s.flagU, s.flagB, s.flagD, s.flagI, s.flagZ, s.flagC⟩

/-- The engine control state that an instruction that completes leaves alone (10_state.md R35 to R42), and the
parameters. -/
structure Control where
  runState : RunState
  codeStart : Word
  codeLen : Nat
  codeValid : Bool
  fault : Option FaultRecord
  stopRequested : Bool
  refused : Option RefusalRecord
  symbols : SymbolTable
  debuggerEnabled : Bool
  breakLatch : Option Word
  breakpointHit : Bool
  params : Params
  deriving DecidableEq, Repr

/-- The control state of a state. -/
def State.control (s : State) : Control :=
  ⟨s.runState, s.codeStart, s.codeLen, s.codeValid, s.fault, s.stopRequested, s.refused, s.symbols,
   s.debuggerEnabled, s.breakLatch, s.breakpointHit, s.params⟩

/-- The write a `changed` event reports (20_memory.md R52). -/
def Event.write : Event → Option (Word × Byte)
  | .changed a v => some (a, v)
  | _ => none

/-- The stack-wrap warning of a push or a pull, if it wraps SP (00_scope.md R11, 60_exceptions.md R322): it carries the
pc of the instruction and the SP before the wrap, and the snapshot of the registers as they stand there (R250). -/
def warnIf (wraps : Bool) (r : Snapshot) (text : String) : List Event :=
  if wraps then [.engine (.simulatorInfo (.stackOverflow r.pc r.sp)) r text] else []

/-- What an address reads after writes made in order: the last write to it, else what the state reads there. -/
def afterWrites (s : State) (writes : List (Word × Byte)) (a : Word) : Byte :=
  match writes.reverse.find? (fun w => w.1 == a) with
  | some w => w.2
  | none => s.peek a

/-- The meaning's answer is a next state whose registers and flags are the given ones, whose memory differs from the
old one by exactly the given writes, each reported by one `changed` event and no other event emitted, with the control
state unchanged, and the step's result `Executed`. -/
def Answers (r : Result) (s : State) (regs : Regs) (flags : Flags) (writes : List (Word × Byte)) : Prop :=
  ∃ t, r = .next t ∧ t.regs = regs ∧ t.flags = flags ∧ t.control = s.control ∧
    t.lastResult = .executed ∧ (∀ a, t.peek a = afterWrites s writes a) ∧
    t.events = s.events ++ writes.map (fun w => .changed w.1 w.2)

/-- As `Answers`, for an instruction that uses the stack: the events it emits are exactly the given list, in its order,
the `changed` events of the writes and the stack-wrap warning among them. The list is given for any text of the warning's
message, which is left open (R250, log 4). -/
def AnswersOnStack (r : Result) (s : State) (regs : Regs) (flags : Flags) (writes : List (Word × Byte))
    (emitted : String → List Event) : Prop :=
  ∃ t text, r = .next t ∧ t.regs = regs ∧ t.flags = flags ∧ t.control = s.control ∧
    t.lastResult = .executed ∧ (∀ a, t.peek a = afterWrites s writes a) ∧ t.events = s.events ++ emitted text

/-- The instruction, executed in the state, completes with the given effect. -/
def Completes (i : Instr) (s : State) (regs : Regs) (flags : Flags) (writes : List (Word × Byte)) : Prop :=
  Answers (exec i s) s regs flags writes

/-- The instruction, executed in the state, completes with the given effect and uses the stack. -/
def CompletesOnStack (i : Instr) (s : State) (regs : Regs) (flags : Flags) (writes : List (Word × Byte))
    (emitted : String → List Event) : Prop :=
  AnswersOnStack (exec i s) s regs flags writes emitted

/-! ## Batches (48_host_operations.md R243) -/

/-- A batch stops before the instruction at pc because of a breakpoint (R243). -/
def State.AtBreakpoint (s : State) : Prop := s.pc ∈ s.params.breakpoints ∧ s.breakLatch ≠ some s.pc

/-- The core step of a batch from `s` leaves `t`: it is not held up by a stop request or a breakpoint, and `t` is what
the step leaves, but for the stop request that a listener made during it (log 8) and for `breakLatch`, which an executed
instruction that completes normally clears (R243, log 20). -/
def BatchStep (listenerStops : Bool) (s t : State) : Prop :=
  s.stopRequested = false ∧ ¬ s.AtBreakpoint ∧
  ∃ v, step s = .next v ∧
    t = { v with
      breakLatch := if v.lastResult = .executed then none else v.breakLatch
      stopRequested := v.stopRequested || (listenerStops && decide (s.runState = .running) &&
        (v.events.drop s.events.length).any Event.beforeEnd) }

/-- Why a batch of `budget` instructions ends after `n` of them, in the state `u`, and the state `w` it leaves (R243):
the budget, a halt that executed, a stop request, a breakpoint, or a core step that executes nothing. `stops` says for
each core step whether a listener calls `stop()` during it. -/
inductive BatchEnds (stops : List Bool) (budget n : Nat) (u : State) : State → Prop where
  | budget : n = budget → BatchEnds stops budget n u u
  | halt : 1 ≤ n → u.lastResult = .halted true → BatchEnds stops budget n u u
  | stop : u.stopRequested = true → BatchEnds stops budget n u u
  | breakpoint : u.stopRequested = false → u.AtBreakpoint →
      BatchEnds stops budget n u { u with breakLatch := some u.pc, breakpointHit := true }
  | step (w : State) : BatchStep (stops.getD n false) u w → w.lastResult ≠ .executed → w.lastResult ≠ .halted true →
      BatchEnds stops budget n u w

/-! ## Assembly (49_assembler.md R278, R280) -/

/-- Each line with its address: where the lengths of the lines before it lead (R277, R278, R280). -/
def placeLines : Nat → List SourceLine → List (Nat × SourceLine)
  | _, [] => []
  | a, l :: ls => (a, l) :: placeLines (a + l.length) ls

/-- The labels that placed lines define, in order, each with the address of its line (R278). -/
def labelsOf (placed : List (Nat × SourceLine)) : SymbolTable :=
  placed.filterMap (fun p => p.2.label.map (fun name => (name, p.1)))

/-- The bytes that pass 2 writes for a placed line, with their addresses, in order (R280 step 5). -/
def lineWrites (table : SymbolTable) (p : Nat × SourceLine) : List (Word × Byte) :=
  if p.2.body = [] then []
  else
    match lineBytes table p.2.body p.1 with
    | .ok bytes => bytes.mapIdx (fun j b => (BitVec.ofNat 16 (p.1 + j), b))
    | .error _ => []

/-- The invariant of the core: U reads 1 and B reads 0 (10_state.md R26, R27), memory is in canonical form, the code
range starts at ORIGIN and ends by 0x10000 (R36, 49_assembler.md R280), there is no code without a successful assembly
(R36), label names are unique (R41), and a standing fault means Stopped (60_exceptions.md R320). -/
def State.Inv (s : State) : Prop :=
  s.flagU = true ∧ s.flagB = false ∧ s.mem.wf = true ∧
  s.codeStart = s.params.origin ∧ s.codeStart.toNat + s.codeLen ≤ 65536 ∧
  (s.codeValid = false → s.codeLen = 0) ∧ (s.symbols.map Prod.fst).Nodup ∧
  (s.fault ≠ none → s.runState = .stopped)

/-- The invariant between host operations: as `Inv`, and no host operation observes Debugging (R35). -/
def State.HostInv (s : State) : Prop := s.Inv ∧ s.runState ≠ .debugging

/-- The states a host can reach from construction with some parameters (R253, R355). -/
inductive Reachable (ps : Params) : State → Prop where
  | construct : Reachable ps (State.construct ps)
  | act (s : State) (act : HostAction) : Reachable ps s → Reachable ps (hostDo act s).2

/-- A run, or a debugger session, has ended (R254). -/
def Ended (s : State) : Prop := s.runState = .completed ∨ s.runState = .stopped ∨ s.refused ≠ none

/-- The successful end of a run (R254). -/
def SuccessfulEnd (s : State) : Prop := s.runState = .completed ∧ s.fault = none ∧ s.refused = none

end Sys2Proof.Machine
end

