-- ==== Sys2Proof/Certificates/Slice0/Obligations.lean ====
section
/-! DEFINITION. The statements for the provers, in the terms of Safety.lean. Each docstring names what of spec/ it
formalises; where a clause rests on a decision or an inference that the spec marks as its own, the docstring says so. -/

open Sys2Proof Sys2Proof.Machine

/-- The bitwise operation of AND, ORA and EOR (44_logical.md R180 to R182). -/
inductive Sys2Proof.Machine.LogicOp where
  | and | or | xor
  deriving DecidableEq, Repr

/-- The operation on one bit of each operand. -/
def Sys2Proof.Machine.LogicOp.onBits : LogicOp → Bool → Bool → Bool
  | .and, p, q => p && q
  | .or, p, q => p || q
  | .xor, p, q => p != q

/-- The four shifts and rotates (45_shift_rotate.md R190 to R193). -/
inductive Sys2Proof.Machine.ShiftOp where
  | asl | lsr | rol | ror
  deriving DecidableEq, Repr

/-- The result as arithmetic on the operand and the carry in, before reduction modulo 256. -/
def Sys2Proof.Machine.ShiftOp.arith : ShiftOp → Nat → Nat → Nat
  | .asl, v, _ => 2 * v
  | .lsr, v, _ => v / 2
  | .rol, v, c => 2 * v + c
  | .ror, v, c => v / 2 + 128 * c

/-- The bit of the operand that goes to the carry. -/
def Sys2Proof.Machine.ShiftOp.outBit : ShiftOp → Nat
  | .asl | .rol => 7
  | .lsr | .ror => 0

/-- The forms of LDA, LDX, LDY (R120 to R122): instruction, opcode byte, operand, the registers once a value is loaded. -/
def Sys2Proof.Machine.loadForms (s : State) (v z : Byte) (w : Word) : List (Instr × Byte × Source × (Byte → Regs)) :=
  let toA := fun v : Byte => { s.regs with a := v }
  let toX := fun v : Byte => { s.regs with x := v }
  let toY := fun v : Byte => { s.regs with y := v }
  [(Instr.ldaIndx z, (0xA1 : Byte), Source.mem (.indx z), toA), (.ldaZp z, 0xA5, .mem (.zp z), toA), (.ldaImm v, 0xA9, .imm v, toA),
   (.ldaAbs w, 0xAD, .mem (.abs w), toA), (.ldaIndy z, 0xB1, .mem (.indy z), toA), (.ldaZpx z, 0xB5, .mem (.zpx z), toA),
   (.ldaAbsy w, 0xB9, .mem (.absy w), toA), (.ldaAbsx w, 0xBD, .mem (.absx w), toA), (.ldxImm v, 0xA2, .imm v, toX),
   (.ldxZp z, 0xA6, .mem (.zp z), toX), (.ldxAbs w, 0xAE, .mem (.abs w), toX), (.ldxZpy z, 0xB6, .mem (.zpy z), toX),
   (.ldxAbsy w, 0xBE, .mem (.absy w), toX), (.ldyImm v, 0xA0, .imm v, toY), (.ldyZp z, 0xA4, .mem (.zp z), toY),
   (.ldyAbs w, 0xAC, .mem (.abs w), toY), (.ldyZpx z, 0xB4, .mem (.zpx z), toY), (.ldyAbsx w, 0xBC, .mem (.absx w), toY)]

/-- R120, R121, R122: "N and Z from v; C, V, I, D unchanged". -/
def Obligations.LoadsTakeTheirOperand : Prop :=
  ∀ (s : State) (v z : Byte) (w : Word) (i : Instr) (op : Byte) (src : Source) (put : Byte → Regs),
    (i, op, src, put) ∈ loadForms s v z w →
    (∀ ps, (encode ps i).head? = some op) ∧
    Completes i s { put (src.value s) with pc := s.pc + BitVec.ofNat 16 src.length }
      { s.flags with n := (src.value s).getLsbD 7, z := decide (src.value s = 0) } []

/-- The forms of STA, STX, STY (R123 to R125): instruction, opcode byte, destination, the value stored. -/
def Sys2Proof.Machine.storeForms (s : State) (z : Byte) (w : Word) : List (Instr × Byte × MemMode × Byte) :=
  [(Instr.staIndx z, (0x81 : Byte), (MemMode.indx z, s.a)), (.staZp z, 0x85, (.zp z, s.a)), (.staAbs w, 0x8D, (.abs w, s.a)),
   (.staIndy z, 0x91, (.indy z, s.a)), (.staZpx z, 0x95, (.zpx z, s.a)), (.staAbsy w, 0x99, (.absy w, s.a)),
   (.staAbsx w, 0x9D, (.absx w, s.a)), (.stxZp z, 0x86, (.zp z, s.x)), (.stxAbs w, 0x8E, (.abs w, s.x)),
   (.stxZpy z, 0x96, (.zpy z, s.x)), (.styZp z, 0x84, (.zp z, s.y)), (.styAbs w, 0x8C, (.abs w, s.y)),
   (.styZpx z, 0x94, (.zpx z, s.y))]

/-- R123, R124, R125: "The write emits exactly one `changed{EA, A}` event" -/
def Obligations.StoresWriteTheirRegister : Prop :=
  ∀ (s : State) (z : Byte) (w : Word) (i : Instr) (op : Byte) (m : MemMode) (v : Byte),
    (i, op, m, v) ∈ storeForms s z w →
    (∀ ps, (encode ps i).head? = some op) ∧
    Completes i s { s.regs with pc := s.pc + BitVec.ofNat 16 m.length } s.flags [(m.ea s, v)]

/-- The transfers that set flags (R140 to R144): instruction, opcode byte, the value moved, the registers but for pc. -/
def Sys2Proof.Machine.transferForms (s : State) : List (Instr × Byte × Byte × Regs) :=
  [(Instr.tax, (0xAA : Byte), s.a, { s.regs with x := s.a }), (.tay, 0xA8, s.a, { s.regs with y := s.a }),
   (.txa, 0x8A, s.x, { s.regs with a := s.x }), (.tya, 0x98, s.y, { s.regs with a := s.y }),
   (.tsx, 0xBA, s.sp, { s.regs with x := s.sp })]

/-- R140 to R144. -/
def Obligations.TransfersCopyAndSetNZ : Prop :=
  ∀ (s : State) (i : Instr) (op v : Byte) (regs : Regs),
    (i, op, v, regs) ∈ transferForms s →
    (∀ ps, encode ps i = [op]) ∧
    Completes i s { regs with pc := s.pc + 1 } { s.flags with n := v.getLsbD 7, z := decide (v = 0) } []

/-- R145. -/
def Obligations.TxsCopiesWithoutFlagsOrWarning : Prop :=
  ∀ s : State, (∀ ps, encode ps .txs = [0x9A]) ∧
    Completes .txs s { s.regs with sp := s.x, pc := s.pc + 1 } s.flags []

/-- PHA and PHP (R150, R151): instruction, opcode byte, the byte pushed. -/
def Sys2Proof.Machine.pushForms (s : State) : List (Instr × Byte × Byte) :=
  [(Instr.pha, (0x48 : Byte), s.a), (.php, 0x08, s.p ||| 0x30)]

/-- 42_stack.md (R150, R151) over push (R11), the warning as in R322 and R250: the order, the warning, the pushed B and U and the order of the events are decisions D4, D5, D3 and D36 of the spec (log 16). -/
def Obligations.PhaAndPhpPush : Prop :=
  ∀ (s : State) (i : Instr) (op v : Byte),
    (i, op, v) ∈ pushForms s →
    (∀ ps, encode ps i = [op]) ∧
    CompletesOnStack i s { s.regs with sp := s.sp - 1, pc := s.pc + 1 } s.flags [(wordOf 0x01 s.sp, v)]
      (fun text => .changed (wordOf 0x01 s.sp) v :: warnIf (decide (s.sp = 0x00)) s.snapshot text)

/-- 42_stack.md (R152) over pull (R11), the warning as in R322 and R250: the order and the warning are decisions D4 and D5 of the spec (log 16). -/
def Obligations.PlaPullsA : Prop :=
  ∀ s : State, (∀ ps, encode ps .pla = [0x68]) ∧
    let v := s.peek (wordOf 0x01 (s.sp + 1))
    CompletesOnStack .pla s { s.regs with a := v, sp := s.sp + 1, pc := s.pc + 1 }
      { s.flags with n := v.getLsbD 7, z := decide (v = 0) } [] (warnIf (decide (s.sp = 0xFF)) s.snapshot)

/-- 42_stack.md (R153) over pull (R11), the warning as in R322 and R250: U and B are decision D3 of the spec, the order and the warning D4 and D5 (log 16). -/
def Obligations.PlpPullsStatus : Prop :=
  ∀ s : State, (∀ ps, encode ps .plp = [0x28]) ∧
    let v := s.peek (wordOf 0x01 (s.sp + 1))
    CompletesOnStack .plp s { s.regs with sp := s.sp + 1, pc := s.pc + 1 }
      ⟨v.getLsbD 7, v.getLsbD 6, true, false, v.getLsbD 3, v.getLsbD 2, v.getLsbD 1, v.getLsbD 0⟩ []
      (warnIf (decide (s.sp = 0xFF)) s.snapshot)

/-- "PHP followed by PLP leaves P unchanged" (an inference the spec marks as derived), and the same of PHA and PLA. -/
def Obligations.PushThenPullRestores : Prop :=
  ∀ s : State,
    (∃ t u, exec .pha s = .next t ∧ exec .pla t = .next u ∧
      u.regs = { s.regs with pc := s.pc + 2 } ∧ u.flags = { s.flags with n := s.a.getLsbD 7, z := decide (s.a = 0) }) ∧
    (s.flagU = true → s.flagB = false →
      ∃ t u, exec .php s = .next t ∧ exec .plp t = .next u ∧
        u.regs = { s.regs with pc := s.pc + 2 } ∧ u.flags = s.flags)

/-- R158. -/
def Obligations.AddCoreIsExact : Prop :=
  ∀ (a m : Byte) (c : Bool),
    let o := addC a m c
    o.result.toNat = (a.toNat + m.toNat + c.toNat) % 256 ∧
    o.carry = decide (255 < a.toNat + m.toNat + c.toNat) ∧
    o.overflow = decide ((a ^^^ o.result) &&& (m ^^^ o.result) &&& 0x80 ≠ 0) ∧
    (o.overflow = true ↔ a.msb = m.msb ∧ o.result.msb ≠ a.msb) ∧
    (o.overflow = true ↔ ¬ (-128 ≤ a.toInt + m.toInt + (c.toNat : Int) ∧ a.toInt + m.toInt + (c.toNat : Int) ≤ 127))

/-- The forms of ADC (R160): instruction, opcode byte, operand. -/
def Sys2Proof.Machine.adcForms (v z : Byte) (w : Word) : List (Instr × Byte × Source) :=
  [(Instr.adcIndx z, (0x61 : Byte), Source.mem (.indx z)), (.adcZp z, 0x65, .mem (.zp z)), (.adcImm v, 0x69, .imm v),
   (.adcAbs w, 0x6D, .mem (.abs w)), (.adcIndy z, 0x71, .mem (.indy z)), (.adcZpx z, 0x75, .mem (.zpx z)),
   (.adcAbsy w, 0x79, .mem (.absy w)), (.adcAbsx w, 0x7D, .mem (.absx w))]

/-- ADC, R160, the case P.D = 0. -/
def Obligations.AdcAddsWithCarry : Prop :=
  ∀ (s : State) (v z : Byte) (w : Word) (i : Instr) (op : Byte) (src : Source),
    (i, op, src) ∈ adcForms v z w →
    (∀ ps, (encode ps i).head? = some op) ∧
    (s.flagD = false →
      let m := src.value s
      let r : Byte := BitVec.ofNat 8 (s.a.toNat + m.toNat + s.flagC.toNat)
      let signed : Int := s.a.toInt + m.toInt + (s.flagC.toNat : Int)
      Completes i s { s.regs with a := r, pc := s.pc + BitVec.ofNat 16 src.length }
        { s.flags with n := r.getLsbD 7, v := decide (signed < -128 ∨ 127 < signed), z := decide (r = 0),
                       c := decide (255 < s.a.toNat + m.toNat + s.flagC.toNat) } [])

/-- The forms of SBC (R161): instruction, opcode byte, operand. -/
def Sys2Proof.Machine.sbcForms (v z : Byte) (w : Word) : List (Instr × Byte × Source) :=
  [(Instr.sbcIndx z, (0xE1 : Byte), Source.mem (.indx z)), (.sbcZp z, 0xE5, .mem (.zp z)), (.sbcImm v, 0xE9, .imm v),
   (.sbcAbs w, 0xED, .mem (.abs w)), (.sbcIndy z, 0xF1, .mem (.indy z)), (.sbcZpx z, 0xF5, .mem (.zpx z)),
   (.sbcAbsy w, 0xF9, .mem (.absy w)), (.sbcAbsx w, 0xFD, .mem (.absx w))]

/-- SBC, R161, the case P.D = 0. -/
def Obligations.SbcSubtractsWithBorrow : Prop :=
  ∀ (s : State) (v z : Byte) (w : Word) (i : Instr) (op : Byte) (src : Source),
    (i, op, src) ∈ sbcForms v z w →
    (∀ ps, (encode ps i).head? = some op) ∧
    (s.flagD = false →
      let m := src.value s
      let diff : Int := (s.a.toNat : Int) - (m.toNat : Int) - (1 - (s.flagC.toNat : Int))
      let signed : Int := s.a.toInt - m.toInt - (1 - (s.flagC.toNat : Int))
      let r : Byte := BitVec.ofInt 8 diff
      Completes i s { s.regs with a := r, pc := s.pc + BitVec.ofNat 16 src.length }
        { s.flags with n := r.getLsbD 7, v := decide (signed < -128 ∨ 127 < signed), z := decide (r = 0),
                       c := decide (0 ≤ diff) } [])

/-- The forms of ADC and SBC (R160, R161), to which R159 applies. -/
def Sys2Proof.Machine.decimalForms (v z : Byte) (w : Word) : List Instr :=
  [Instr.adcIndx z, .adcZp z, .adcImm v, .adcAbs w,
   .adcIndy z, .adcZpx z, .adcAbsy w, .adcAbsx w,
   .sbcIndx z, .sbcZp z, .sbcImm v, .sbcAbs w,
   .sbcIndy z, .sbcZpx z, .sbcAbsy w, .sbcAbsx w]

/-- Decimal mode (R159, R323): the refusal is decision D11 of the spec; the model takes it as a next state (log 3). -/
def Obligations.DecimalArithmeticIsRefused : Prop :=
  ∀ (s : State) (v z : Byte) (w : Word) (i : Instr),
    i ∈ decimalForms v z w →
    s.flagD = true →
    exec i s = .next { s with refused := some ⟨.decimalMode, s.pc⟩, lastResult := .refused .decimalMode }

/-- The forms of CMP, CPX, CPY (R162 to R164): instruction, opcode byte, operand, the register compared. -/
def Sys2Proof.Machine.compareForms (s : State) (v z : Byte) (w : Word) : List (Instr × Byte × Source × Byte) :=
  [(Instr.cmpIndx z, (0xC1 : Byte), Source.mem (.indx z), s.a), (.cmpZp z, 0xC5, .mem (.zp z), s.a), (.cmpImm v, 0xC9, .imm v, s.a),
   (.cmpAbs w, 0xCD, .mem (.abs w), s.a), (.cmpIndy z, 0xD1, .mem (.indy z), s.a), (.cmpZpx z, 0xD5, .mem (.zpx z), s.a),
   (.cmpAbsy w, 0xD9, .mem (.absy w), s.a), (.cmpAbsx w, 0xDD, .mem (.absx w), s.a), (.cpxImm v, 0xE0, .imm v, s.x),
   (.cpxZp z, 0xE4, .mem (.zp z), s.x), (.cpxAbs w, 0xEC, .mem (.abs w), s.x), (.cpyImm v, 0xC0, .imm v, s.y),
   (.cpyZp z, 0xC4, .mem (.zp z), s.y), (.cpyAbs w, 0xCC, .mem (.abs w), s.y)]

/-- R162, R163, R164. -/
def Obligations.ComparesWriteFlagsAlone : Prop :=
  ∀ (s : State) (v z : Byte) (w : Word) (i : Instr) (op : Byte) (src : Source) (reg : Byte),
    (i, op, src, reg) ∈ compareForms s v z w →
    (∀ ps, (encode ps i).head? = some op) ∧
    let m := src.value s
    Completes i s { s.regs with pc := s.pc + BitVec.ofNat 16 src.length }
      { s.flags with n := (BitVec.ofNat 8 (reg.toNat + 256 - m.toNat) : Byte).getLsbD 7, z := decide (reg = m),
                     c := decide (m.toNat ≤ reg.toNat) } []

/-- The forms of INC and DEC (R165, R168): instruction, opcode byte, destination, what is added modulo 256. -/
def Sys2Proof.Machine.incDecForms (z : Byte) (w : Word) : List (Instr × Byte × MemMode × Nat) :=
  [(Instr.incZp z, (0xE6 : Byte), MemMode.zp z, (1 : Nat)), (.incAbs w, 0xEE, .abs w, 1), (.incZpx z, 0xF6, .zpx z, 1),
   (.incAbsx w, 0xFE, .absx w, 1), (.decZp z, 0xC6, .zp z, 255), (.decAbs w, 0xCE, .abs w, 255),
   (.decZpx z, 0xD6, .zpx z, 255), (.decAbsx w, 0xDE, .absx w, 255)]

/-- INC and DEC (R165, R168): that there is one write is decision D32 of the spec (log 16). -/
def Obligations.IncAndDecModifyMemory : Prop :=
  ∀ (s : State) (z : Byte) (w : Word) (i : Instr) (op : Byte) (m : MemMode) (k : Nat),
    (i, op, m, k) ∈ incDecForms z w →
    (∀ ps, (encode ps i).head? = some op) ∧
    let r : Byte := BitVec.ofNat 8 ((s.peek (m.ea s)).toNat + k)
    Completes i s { s.regs with pc := s.pc + BitVec.ofNat 16 m.length }
      { s.flags with n := r.getLsbD 7, z := decide (r = 0) } [(m.ea s, r)]

/-- INX, INY, DEX, DEY (R166, R167, R169, R170): instruction, opcode byte, result, the registers but for pc. -/
def Sys2Proof.Machine.indexForms (s : State) : List (Instr × Byte × Byte × Regs) :=
  [(Instr.inx, (0xE8 : Byte), BitVec.ofNat 8 (s.x.toNat + 1), { s.regs with x := BitVec.ofNat 8 (s.x.toNat + 1) }),
   (.iny, 0xC8, BitVec.ofNat 8 (s.y.toNat + 1), { s.regs with y := BitVec.ofNat 8 (s.y.toNat + 1) }),
   (.dex, 0xCA, BitVec.ofNat 8 (s.x.toNat + 255), { s.regs with x := BitVec.ofNat 8 (s.x.toNat + 255) }),
   (.dey, 0x88, BitVec.ofNat 8 (s.y.toNat + 255), { s.regs with y := BitVec.ofNat 8 (s.y.toNat + 255) })]

/-- R166, R167, R169, R170. -/
def Obligations.IndexIncrementsAndDecrements : Prop :=
  ∀ (s : State) (i : Instr) (op r : Byte) (regs : Regs),
    (i, op, r, regs) ∈ indexForms s →
    (∀ ps, encode ps i = [op]) ∧
    Completes i s { regs with pc := s.pc + 1 } { s.flags with n := r.getLsbD 7, z := decide (r = 0) } []

/-- The forms of AND, ORA, EOR (R180 to R182): instruction, opcode byte, operand, operation. -/
def Sys2Proof.Machine.logicForms (v z : Byte) (w : Word) : List (Instr × Byte × Source × LogicOp) :=
  [(Instr.andIndx z, (0x21 : Byte), Source.mem (.indx z), LogicOp.and), (.andZp z, 0x25, .mem (.zp z), .and), (.andImm v, 0x29, .imm v, .and),
   (.andAbs w, 0x2D, .mem (.abs w), .and), (.andIndy z, 0x31, .mem (.indy z), .and), (.andZpx z, 0x35, .mem (.zpx z), .and),
   (.andAbsy w, 0x39, .mem (.absy w), .and), (.andAbsx w, 0x3D, .mem (.absx w), .and), (.oraIndx z, 0x01, .mem (.indx z), .or),
   (.oraZp z, 0x05, .mem (.zp z), .or), (.oraImm v, 0x09, .imm v, .or), (.oraAbs w, 0x0D, .mem (.abs w), .or),
   (.oraIndy z, 0x11, .mem (.indy z), .or), (.oraZpx z, 0x15, .mem (.zpx z), .or), (.oraAbsy w, 0x19, .mem (.absy w), .or),
   (.oraAbsx w, 0x1D, .mem (.absx w), .or), (.eorIndx z, 0x41, .mem (.indx z), .xor), (.eorZp z, 0x45, .mem (.zp z), .xor),
   (.eorImm v, 0x49, .imm v, .xor), (.eorAbs w, 0x4D, .mem (.abs w), .xor), (.eorIndy z, 0x51, .mem (.indy z), .xor),
   (.eorZpx z, 0x55, .mem (.zpx z), .xor), (.eorAbsy w, 0x59, .mem (.absy w), .xor), (.eorAbsx w, 0x5D, .mem (.absx w), .xor)]

/-- R180 to R182. -/
def Obligations.LogicalOperationsOnA : Prop :=
  ∀ (s : State) (v z : Byte) (w : Word) (i : Instr) (op : Byte) (src : Source) (f : LogicOp),
    (i, op, src, f) ∈ logicForms v z w →
    (∀ ps, (encode ps i).head? = some op) ∧
    ∃ r : Byte, (∀ k, k < 8 → r.getLsbD k = f.onBits (s.a.getLsbD k) ((src.value s).getLsbD k)) ∧
      Completes i s { s.regs with a := r, pc := s.pc + BitVec.ofNat 16 src.length }
        { s.flags with n := r.getLsbD 7, z := decide (r = 0) } []

/-- The forms of BIT (R183): instruction, opcode byte, operand. -/
def Sys2Proof.Machine.bitForms (z : Byte) (w : Word) : List (Instr × Byte × Source) :=
  [(Instr.bitZp z, (0x24 : Byte), Source.mem (.zp z)), (.bitAbs w, 0x2C, .mem (.abs w))]

/-- R183. -/
def Obligations.BitTestsWithoutWriting : Prop :=
  ∀ (s : State) (z : Byte) (w : Word) (i : Instr) (op : Byte) (src : Source),
    (i, op, src) ∈ bitForms z w →
    (∀ ps, (encode ps i).head? = some op) ∧
    let m := src.value s
    Completes i s { s.regs with pc := s.pc + BitVec.ofNat 16 src.length }
      { s.flags with n := m.getLsbD 7, v := m.getLsbD 6, z := decide (s.a &&& m = 0) } []

/-- The accumulator forms of ASL, LSR, ROL, ROR (R190 to R193): instruction, opcode byte, operation. -/
def Sys2Proof.Machine.shiftAForms : List (Instr × Byte × ShiftOp) :=
  [(Instr.aslAcc, (0x0A : Byte), ShiftOp.asl), (.lsrAcc, 0x4A, .lsr), (.rolAcc, 0x2A, .rol),
   (.rorAcc, 0x6A, .ror)]

/-- R190 to R193 in mode acc, over the frame of R189 (marked D32, which concerns its memory modes). -/
def Obligations.ShiftsAndRotatesOfA : Prop :=
  ∀ (s : State) (i : Instr) (op : Byte) (f : ShiftOp),
    (i, op, f) ∈ shiftAForms →
    (∀ ps, encode ps i = [op]) ∧
    let r : Byte := BitVec.ofNat 8 (f.arith s.a.toNat s.flagC.toNat)
    Completes i s { s.regs with a := r, pc := s.pc + 1 }
      { s.flags with n := r.getLsbD 7, z := decide (r = 0), c := s.a.getLsbD f.outBit } []

/-- The memory forms of ASL, LSR, ROL, ROR (R190 to R193): instruction, opcode byte, destination, operation. -/
def Sys2Proof.Machine.shiftForms (z : Byte) (w : Word) : List (Instr × Byte × MemMode × ShiftOp) :=
  [(Instr.aslZp z, (0x06 : Byte), MemMode.zp z, ShiftOp.asl), (.aslAbs w, 0x0E, .abs w, .asl), (.aslZpx z, 0x16, .zpx z, .asl),
   (.aslAbsx w, 0x1E, .absx w, .asl), (.lsrZp z, 0x46, .zp z, .lsr), (.lsrAbs w, 0x4E, .abs w, .lsr),
   (.lsrZpx z, 0x56, .zpx z, .lsr), (.lsrAbsx w, 0x5E, .absx w, .lsr), (.rolZp z, 0x26, .zp z, .rol),
   (.rolAbs w, 0x2E, .abs w, .rol), (.rolZpx z, 0x36, .zpx z, .rol), (.rolAbsx w, 0x3E, .absx w, .rol),
   (.rorZp z, 0x66, .zp z, .ror), (.rorAbs w, 0x6E, .abs w, .ror), (.rorZpx z, 0x76, .zpx z, .ror),
   (.rorAbsx w, 0x7E, .absx w, .ror)]

/-- R190 to R193 in the memory modes, over the frame of R189; one write is decision D32 of the spec (log 16). -/
def Obligations.ShiftsAndRotatesOfMemory : Prop :=
  ∀ (s : State) (z : Byte) (w : Word) (i : Instr) (op : Byte) (m : MemMode) (f : ShiftOp),
    (i, op, m, f) ∈ shiftForms z w →
    (∀ ps, (encode ps i).head? = some op) ∧
    let v := s.peek (m.ea s)
    let r : Byte := BitVec.ofNat 8 (f.arith v.toNat s.flagC.toNat)
    Completes i s { s.regs with pc := s.pc + BitVec.ofNat 16 m.length }
      { s.flags with n := r.getLsbD 7, z := decide (r = 0), c := v.getLsbD f.outBit } [(m.ea s, r)]

/-- "Nine ROLs of A give back the starting A and C", which the spec marks as derived; and the same of ROR. -/
def Obligations.NineRotatesGiveBackAAndCarry : Prop :=
  ∀ s : State, ∀ i ∈ [Instr.rolAcc, Instr.rorAcc],
    ∃ t : Nat → State, t 0 = s ∧ (∀ k, k < 9 → exec i (t k) = .next (t (k + 1))) ∧
      (t 9).a = s.a ∧ (t 9).flagC = s.flagC

/-- JMP (R200, R91), for both values of the parameter that is decision D9 of the spec (log 16). -/
def Obligations.JmpSetsPc : Prop :=
  ∀ (s : State) (w : Word),
    (∀ ps, (encode ps (.jmpAbs w)).head? = some 0x4C ∧ (encode ps (.jmpInd w)).head? = some 0x6C) ∧
    Completes (.jmpAbs w) s { s.regs with pc := w } s.flags [] ∧
    let high : Word := if s.params.jmpIndPageWrap = true ∧ w.toNat % 256 = 255 then w - 255 else w + 1
    Completes (.jmpInd w) s { s.regs with pc := wordOf (s.peek high) (s.peek w) } s.flags []

/-- JSR (R201) over push (R11), the warning as in R322 and R250 at the push that wraps (R251): decisions D4, D5 and D36 of the spec (log 16). -/
def Obligations.JsrPushesReturnAddress : Prop :=
  ∀ (s : State) (w : Word), (∀ ps, (encode ps (.jsr w)).head? = some 0x20) ∧
    CompletesOnStack (.jsr w) s { s.regs with sp := s.sp - 2, pc := w } s.flags
      [(wordOf 0x01 s.sp, hiByte (s.pc + 2)), (wordOf 0x01 (s.sp - 1), loByte (s.pc + 2))]
      (fun text =>
        .changed (wordOf 0x01 s.sp) (hiByte (s.pc + 2)) :: (warnIf (decide (s.sp = 0x00)) s.snapshot text ++
        .changed (wordOf 0x01 (s.sp - 1)) (loByte (s.pc + 2)) ::
          warnIf (decide (s.sp = 0x01)) { s.snapshot with sp := 0x00 } text))

/-- RTS (R202) over pull (R11), the warning as in R322 and R250: decisions D4 and D5 of the spec (log 16). -/
def Obligations.RtsPullsReturnAddress : Prop :=
  ∀ s : State, (∀ ps, encode ps .rts = [0x60]) ∧
    CompletesOnStack .rts s
      { s.regs with sp := s.sp + 2,
                    pc := wordOf (s.peek (wordOf 0x01 (s.sp + 2))) (s.peek (wordOf 0x01 (s.sp + 1))) + 1 }
      s.flags [] (warnIf (decide (s.sp = 0xFE ∨ s.sp = 0xFF)) { s.snapshot with sp := 0xFF })

/-- The return-address convention of R212, from R201 and R202. -/
def Obligations.CallThenReturnComesBack : Prop :=
  ∀ (s : State) (w : Word), ∃ t, exec (.jsr w) s = .next t ∧
    ∀ u : State, u.sp = t.sp → (∀ a, (a = wordOf 0x01 (t.sp + 1) ∨ a = wordOf 0x01 (t.sp + 2)) → u.peek a = t.peek a) →
      ∃ v, exec .rts u = .next v ∧ v.pc = s.pc + 3 ∧ v.sp = s.sp ∧ v.a = u.a ∧ v.x = u.x ∧ v.y = u.y ∧ v.flags = u.flags

/-- The branches (R204 to R211): instruction, opcode byte, condition. -/
def Sys2Proof.Machine.branchForms (s : State) (d : Byte) : List (Instr × Byte × Bool) :=
  [(Instr.bpl d, (0x10 : Byte), !s.flagN), (.bmi d, 0x30, s.flagN), (.bvc d, 0x50, !s.flagV),
   (.bvs d, 0x70, s.flagV), (.bcc d, 0x90, !s.flagC), (.bcs d, 0xB0, s.flagC), (.bne d, 0xD0, !s.flagZ),
   (.beq d, 0xF0, s.flagZ)]

/-- R203 to R211, R94: the base pc + 2 is decision D10 of the spec (log 16). -/
def Obligations.BranchesTestOneFlag : Prop :=
  ∀ (s : State) (d : Byte) (i : Instr) (op : Byte) (cond : Bool),
    (i, op, cond) ∈ branchForms s d →
    (∀ ps, encode ps i = [op, d]) ∧
    Completes i s
      { s.regs with pc := if cond then BitVec.ofInt 16 ((s.pc.toNat : Int) + 2 + d.toInt) else s.pc + 2 } s.flags []

/-- CLC to CLV (R220 to R226) and NOP (R227): instruction, opcode byte, the flags after. -/
def Sys2Proof.Machine.flagForms (s : State) : List (Instr × Byte × Flags) :=
  [(Instr.clc, (0x18 : Byte), { s.flags with c := false }), (.sec, 0x38, { s.flags with c := true }),
   (.cli, 0x58, { s.flags with i := false }), (.sei, 0x78, { s.flags with i := true }),
   (.cld, 0xD8, { s.flags with d := false }), (.sed, 0xF8, { s.flags with d := true }),
   (.clv, 0xB8, { s.flags with v := false }), (.nop, 0xEA, s.flags)]

/-- R220 to R227. -/
def Obligations.FlagInstructionsWriteOneFlag : Prop :=
  ∀ (s : State) (i : Instr) (op : Byte) (flags : Flags),
    (i, op, flags) ∈ flagForms s →
    (∀ ps, encode ps i = [op]) ∧ Completes i s { s.regs with pc := s.pc + 1 } flags []

/-- BRK (R228): the halt is decision D12 of the spec (log 16). -/
def Obligations.BrkHalts : Prop :=
  ∀ s : State, (∀ ps, encode ps .brk = [0x00]) ∧
    ∃ t text, exec .brk s = .next t ∧ t.regs = { s.regs with pc := s.pc + 1 } ∧ t.flags = s.flags ∧
      t.control = { s.control with runState := .completed } ∧ t.lastResult = .halted true ∧
      (∀ a, t.peek a = s.peek a) ∧
      t.events = s.events ++ [.engine (.simulatorInfo .halt) { s.snapshot with pc := s.pc + 1 } text]

/-- RTI (R229) over pull (R11), the warning as in R322 and R250, P written between the first pull and the second: decisions D3, D4 and D5 of the spec (log 16). -/
def Obligations.RtiPullsStatusAndPc : Prop :=
  ∀ s : State, (∀ ps, encode ps .rti = [0x40]) ∧
    let v := s.peek (wordOf 0x01 (s.sp + 1))
    CompletesOnStack .rti s
      { s.regs with sp := s.sp + 3,
                    pc := wordOf (s.peek (wordOf 0x01 (s.sp + 3))) (s.peek (wordOf 0x01 (s.sp + 2))) }
      ⟨v.getLsbD 7, v.getLsbD 6, true, false, v.getLsbD 3, v.getLsbD 2, v.getLsbD 1, v.getLsbD 0⟩ []
      (warnIf (decide (s.sp = 0xFD ∨ s.sp = 0xFE ∨ s.sp = 0xFF))
        { s.snapshot with sp := 0xFF, p := if s.sp = 0xFF then s.p else (v &&& 0xCF) ||| 0x20 })

/-- The pseudo-op (R230): decision D15 of the spec (log 16). -/
def Obligations.PseudoOpReportsItsType : Prop :=
  ∀ (s : State) (t : Byte), encode s.params (.pseudoOp t) = [s.params.pseudoOp, t] ∧
    ∃ u text text', exec (.pseudoOp t) s = .next u ∧ u.regs = { s.regs with pc := s.pc + 2 } ∧ u.flags = s.flags ∧
      (∀ a, u.peek a = s.peek a) ∧
      if t ∈ s.params.pseudoOpHalts then
        u.control = { s.control with runState := .completed } ∧ u.lastResult = .halted true ∧
        u.events = s.events ++ [.engine (.pseudoOp t) s.snapshot text,
                                .engine (.simulatorInfo .halt) { s.snapshot with pc := s.pc + 2 } text']
      else
        u.control = s.control ∧ u.lastResult = .executed ∧
        u.events = s.events ++ [.engine (.pseudoOp t) s.snapshot text]

/-- R85, R88 to R90. -/
def Obligations.EffectiveAddressesOfDirectModes : Prop :=
  ∀ (s : State) (z : Byte) (w : Word),
    ((MemMode.zp z).ea s).toNat = z.toNat ∧ ((MemMode.abs w).ea s).toNat = w.toNat ∧
    ((MemMode.absx w).ea s).toNat = (w.toNat + s.x.toNat) % 65536 ∧
    ((MemMode.absy w).ea s).toNat = (w.toNat + s.y.toNat) % 65536 ∧
    (∀ hi lo : Byte, (wordOf hi lo).toNat = 256 * hi.toNat + lo.toNat)

/-- R86, R87, R92, R93: decisions D7 and D8 of the spec (log 16). -/
def Obligations.EffectiveAddressesInZeroPage : Prop :=
  ∀ (s : State) (z : Byte),
    let pointer := fun p : Nat =>
      (s.peek (BitVec.ofNat 16 p)).toNat +
        256 * (s.peek (BitVec.ofNat 16 (if p = 255 ∧ s.params.zpPointerWrap = true then 0 else p + 1))).toNat
    ((MemMode.zpx z).ea s).toNat = (z.toNat + s.x.toNat) % 256 ∧
    ((MemMode.zpy z).ea s).toNat = (z.toNat + s.y.toNat) % 256 ∧
    ((MemMode.indx z).ea s).toNat = pointer ((z.toNat + s.x.toNat) % 256) ∧
    ((MemMode.indy z).ea s).toNat = (pointer z.toNat + s.y.toNat) % 65536

/-- set (R52). The delivery clause is R52 and R71 with the choice of listeners by kind, R252, of the model's stand-in `deliveries` (DESIGN CHOICE, log 8). -/
def Obligations.SetMasksAndReportsOnce : Prop :=
  ∀ (s : State) (a : Word) (v : Nat),
    let t := s.memSet a v
    t.regs = s.regs ∧ t.flags = s.flags ∧ t.control = s.control ∧ (t.peek a).toNat = v % 256 ∧
    (∀ b, b ≠ a → t.peek b = s.peek b) ∧
    ∃ e, t.events = s.events ++ [e] ∧ e = .changed a (BitVec.ofNat 8 v) ∧
      ∀ listeners : List (Nat × EventKind),
        deliveries listeners [e] = (listeners.filter (fun l => l.2 = .changed)).map (fun l => (l.1, e))

/-- get_word (R53): the wrap at 0xFFFF is decision D6 of the spec (log 16). -/
def Obligations.GetWordIsLittleEndianAndWraps : Prop :=
  ∀ (s : State) (a : Word),
    (s.getWord a).toNat = (s.peek a).toNat + 256 * (s.peek (BitVec.ofNat 16 ((a.toNat + 1) % 65536))).toNat

/-- stepCore (R240). -/
def Obligations.StepRunsTheDecodedInstruction : Prop :=
  ∀ (s : State) (i : Instr) (rest : List Byte),
    s.refused = none → s.fault = none →
    s.codeStart.toNat ≤ s.pc.toNat → s.pc.toNat < s.codeStart.toNat + s.codeLen →
    decode s.params [s.peek s.pc, s.peek (s.pc + 1), s.peek (s.pc + 2)] = .ok (i, rest) →
    wellFormed s.params i = true → step s = exec i s

/-- IllegalOpcode (R320, R96): decision D14 of the spec (log 16). -/
def Obligations.IllegalOpcodeFaultsPrecisely : Prop :=
  ∀ s : State, s.refused = none → s.fault = none →
    s.codeStart.toNat ≤ s.pc.toNat → s.pc.toNat < s.codeStart.toNat + s.codeLen →
    isUndocumented (s.peek s.pc) = true → s.peek s.pc ≠ s.params.pseudoOp →
    ∃ t text, step s = .next t ∧ t.regs = s.regs ∧ t.flags = s.flags ∧ (∀ a, t.peek a = s.peek a) ∧
      t.control = { s.control with fault := some ⟨.illegalOpcode, s.pc, s.peek s.pc⟩, runState := .stopped } ∧
      t.lastResult = .faulted .illegalOpcode ∧
      t.events = s.events ++ [.engine (.simulatorFailure ⟨.illegalOpcode, s.pc, s.peek s.pc⟩) s.snapshot text]

/-- The code-range halt (R240 step 2, R241 case (c)): decision D13 of the spec (log 16). -/
def Obligations.LeavingTheCodeRangeHalts : Prop :=
  ∀ s : State, s.refused = none → s.fault = none →
    (s.pc.toNat < s.codeStart.toNat ∨ s.codeStart.toNat + s.codeLen ≤ s.pc.toNat) →
    ∃ t text, step s = .next t ∧ t.regs = s.regs ∧ t.flags = s.flags ∧ (∀ a, t.peek a = s.peek a) ∧
      t.control = { s.control with runState := .completed } ∧ t.lastResult = .halted false ∧
      t.events = s.events ++ [.engine (.simulatorInfo .halt) s.snapshot text]

/-- R240 step 1, R37, R40: decisions D11 and D14 of the spec (log 16). -/
def Obligations.NoStepWhileFaultOrRefusalStands : Prop :=
  ∀ s : State, (s.refused ≠ none ∨ s.fault ≠ none) → step s = .next { s with lastResult := .noStep }

/-- "The engine control state ... is reachable only through the host operations" (R45), with the halt (R241) and the refusal (R323) as the two exceptions. -/
def Obligations.InstructionsLeaveEngineControlAlone : Prop :=
  ∀ (i : Instr) (s t : State), exec i s = .next t →
    t.control = { s.control with runState := t.runState, refused := t.refused } ∧
    (t.runState = s.runState ∨ t.runState = .completed) ∧
    (t.refused = s.refused ∨ (s.flagD = true ∧ t.refused = some ⟨.decimalMode, s.pc⟩))

/-- The lists of writers in R23 (less reset, which is no instruction), R30 and R31. -/
def Obligations.OnlyListedInstructionsWriteSpIAndD : Prop :=
  ∀ (i : Instr) (s t : State), exec i s = .next t →
    (t.sp ≠ s.sp → i ∈ [Instr.pha, .php, .pla, .plp, .rts, .rti, .txs] ∨ ∃ w, i = .jsr w) ∧
    (t.flagI ≠ s.flagI → i ∈ [Instr.sei, .cli, .plp, .rti]) ∧
    (t.flagD ≠ s.flagD → i ∈ [Instr.sed, .cld, .plp, .rti])

/-- R60, R57, R63. -/
def Obligations.ChangedStreamAccountsForMemory : Prop :=
  ∀ s : State,
    (∀ t, step s = .next t → ∃ new, t.events = s.events ++ new ∧
      ∀ a, t.peek a = afterWrites s (new.filterMap Event.write) a) ∧
    (∀ act, (∀ source, act ≠ HostAction.assemble source) → ∃ new, (hostDo act s).2.events = s.events ++ new ∧
      ∀ a, (hostDo act s).2.peek a = afterWrites s (new.filterMap Event.write) a)

/-- R44, R350: memory and code range at construction are decisions D20 and D21 of the spec. -/
def Obligations.ConstructionValues : Prop :=
  (∀ (ps : Params) (a : Word),
    let s := State.construct ps
    s.regs = ⟨0x00, 0x00, 0x00, 0xFF, ps.origin⟩ ∧ s.flags = ⟨false, false, true, false, false, false, false, false⟩ ∧
    s.peek a = 0x00 ∧ s.events = [] ∧
    s.control = ⟨.initialized, ps.origin, 0, false, none, false, none, [], false, none, false, ps⟩) ∧
  ∃ ps, State.reset = State.construct ps

/-- R80, R98, R97. -/
def Obligations.SampleWordsDecode : Prop :=
  ∀ ps : Params, ps.wellFormed = true →
    decode ps [0xA9, 0x80] = .ok (.ldaImm 0x80, []) ∧ decode ps [0x8D, 0x00, 0x02] = .ok (.staAbs 0x0200, []) ∧
    decode ps [0xBA] = .ok (.tsx, []) ∧ decode ps [0x48] = .ok (.pha, []) ∧
    decode ps [0x71, 0x20] = .ok (.adcIndy 0x20, []) ∧ decode ps [0x41, 0xFE] = .ok (.eorIndx 0xFE, []) ∧
    decode ps [0x7E, 0x00, 0x02] = .ok (.rorAbsx 0x0200, []) ∧ decode ps [0x6C, 0xFF, 0x12] = .ok (.jmpInd 0x12FF, []) ∧
    decode ps [0xD0, 0xFB] = .ok (.bne 0xFB, []) ∧ decode ps [0xB8] = .ok (.clv, []) ∧
    decode ps [ps.pseudoOp, 0x01] = .ok (.pseudoOp 0x01, [])

/-- R80, R81, R97, R98. -/
def Obligations.DecodeOfEncodeIsTheInstruction : Prop :=
  ∀ (ps : Params) (i : Instr) (rest : List Byte), wellFormed ps i = true →
    decode ps (encode ps i ++ rest) = .ok (i, rest)

/-- R80, R81, R98, R99: no prefixes, no second encodings. -/
def Obligations.EncodeOfDecodeIsTheBytes : Prop :=
  ∀ (ps : Params) (bs : List Byte) (i : Instr) (rest : List Byte), decode ps bs = .ok (i, rest) →
    encode ps i ++ rest = bs

/-- R96: the list is one the spec marks as derived. -/
def Obligations.IllegalBytesAreExactlyTheListed : Prop :=
  ∀ (ps : Params) (op : Byte) (rest : List Byte),
    decode ps (op :: rest) = .error (.illegalOpcode op) ↔ isUndocumented op = true ∧ op ≠ ps.pseudoOp

/-- R44, R350 and the clauses of State.Inv. -/
def Obligations.ConstructionMeetsTheInvariant : Prop :=
  ∀ ps : Params, (State.construct ps).HostInv

/-- R26, R27, R34, R36, R37, R41: see State.Inv. -/
def Obligations.StepKeepsTheInvariant : Prop :=
  ∀ s t : State, s.Inv → step s = .next t → t.Inv ∧ t.params = s.params

/-- R249, R283, R35: see State.HostInv. -/
def Obligations.HostOperationsKeepTheInvariant : Prop :=
  ∀ (act : HostAction) (s : State), s.HostInv → (hostDo act s).2.HostInv ∧ (hostDo act s).2.params = s.params

/-- R249: decision D34 of the spec (log 16). -/
def Obligations.RejectedOperationsChangeNothing : Prop :=
  ∀ (act : HostAction) (s t : State), hostDo act s = (.rejected, t) → t = s

/-- The nine columns of R249 (decision D34 of the spec, log 16); the batch size of R244; R253 for the other operations, which are no columns of that table. That an input write is accepted in every run state is the model's reading (DEDUCED, log 18). -/
def Obligations.HostPreconditionsAreTheTable : Prop :=
  ∀ (s : State) (source : Text) (stops : List Bool) (n v : Nat) (a : Word) (range : Option (Nat × Nat)),
    ((hostDo (.assemble source) s).1 = .rejected ↔ s.runState = .running) ∧
    ((hostDo .reset s).1 = .rejected ↔ s.runState = .running) ∧
    ((hostDo .run s).1 = .rejected ↔ s.runState ≠ .ready) ∧
    ((hostDo .step s).1 = .rejected ↔ s.runState ≠ .debuggingPaused) ∧
    ((hostDo (.multiStep stops n) s).1 = .rejected ↔
      ¬ (s.runState = .running ∨ (s.runState = .debuggingPaused ∧ s.debuggerEnabled = true))) ∧
    ((hostDo (.goto a) s).1 = .rejected ↔
      s.runState ≠ .ready ∧ s.runState ≠ .debuggingPaused ∧ s.runState ≠ .stopped) ∧
    ((hostDo .enableDebugger s).1 = .rejected ↔ s.runState ≠ .ready ∧ s.runState ≠ .running) ∧
    ((hostDo .disableDebugger s).1 = .rejected ↔ s.runState ≠ .debuggingPaused) ∧
    ((hostDo (.write a v) s).1 = .rejected ↔ a ∉ s.params.hostInputAddrs) ∧
    ((hostDo (.batch stops n) s).1 = .rejected ↔ s.runState ≠ .running ∨ n = 0) ∧
    (hostDo .boundary s).1 = .done ∧ (hostDo .stop s).1 = .done ∧ (hostDo (.disassemble range) s).1 = .done ∧
    (hostDo (.hexdump range) s).1 = .done

/-- R351: decisions D20 and D34 of the spec (log 16); R352, an inference the spec marks as derived. -/
def Obligations.ResetOperationLeavesTheProgram : Prop :=
  ∀ s : State, s.runState ≠ .running →
    ∃ t text, hostDo .reset s = (.done, t) ∧ t.regs = ⟨0x00, 0x00, 0x00, 0xFF, s.params.origin⟩ ∧
      t.flags = ⟨false, false, true, false, false, false, false, false⟩ ∧ t.mem = s.mem ∧
      t.control = ⟨if s.codeValid = true then .ready else .initialized, s.codeStart, s.codeLen, s.codeValid, none, false,
                   none, s.symbols, false, none, false, s.params⟩ ∧
      t.events = s.events ++ [.engine .reset ⟨0x00, 0x00, 0x00, 0xFF, s.params.origin, 0x20⟩ text] ∧
      ∃ e, hostDo .reset t = (.done, { t with events := t.events ++ [e] }) ∧ e.kind = .reset

/-- R243: decisions D33 and D35 of the spec (log 16). The listeners' stop() is an argument (log 8), and the break latch of a halt is kept (log 20): the model's choices. -/
def Obligations.MultiStepKeepsItsBudget : Prop :=
  ∀ (s : State) (stops : List Bool) (budget : Nat),
    (s.runState = .running ∨ (s.runState = .debuggingPaused ∧ s.debuggerEnabled = true)) →
    ∃ (n : Nat) (t w : State) (u : Nat → State) (text : String), hostDo (.multiStep stops budget) s = (.count n, t) ∧
      n ≤ budget ∧ u 0 = { s with runState := if s.runState = .running then .running else .debugging } ∧
      (∀ k, k < n → BatchStep (stops.getD k false) (u k) (u (k + 1))) ∧
      (∀ k, k < n → (u (k + 1)).lastResult = .executed ∨ (k + 1 = n ∧ (u n).lastResult = .halted true ∧ w = u n)) ∧
      BatchEnds stops budget n (u n) w ∧
      t = { w with runState := if w.runState = .debugging then .debuggingPaused else w.runState
                   events := w.events ++ [.engine .multistep w.snapshot text] } ∧
      (budget = 0 ∨ s.stopRequested = true →
        n = 0 ∧ t = { s with events := s.events ++ [.engine .multistep s.snapshot text] })

/-- R362, an inference the spec marks as derived, on the loop of R243. -/
def Obligations.BatchesSplitAnywhere : Prop :=
  ∀ (m n : Nat) (stops : List Bool) (s t : State), batchLoop m stops s = (m, t) → (m = 0 ∨ t.lastResult = .executed) →
    batchLoop (m + n) stops s = (m + (batchLoop n (stops.drop m) t).1, (batchLoop n (stops.drop m) t).2)

/-- R244, R245: decision D35 of the spec (log 16). -/
def Obligations.StopTakesEffectAtTheBoundary : Prop :=
  ∀ (s : State) (stops : List Bool) (size : Nat), s.runState = .running → 1 ≤ size →
    let asked := (hostDo .stop s).2
    ∃ t u e, hostDo (.batch stops size) asked = (.count 0, t) ∧ hostDo .boundary t = (.done, u) ∧
      u.runState = .stopped ∧ u.stopRequested = false ∧ u.regs = s.regs ∧ u.flags = s.flags ∧ u.mem = s.mem ∧
      u.events = t.events ++ [e] ∧ e.kind = .stop

/-- R278, R280, R283, R355: decisions D20, D21, D28 and D29 of the spec (log 16); the corners of a line's length and bytes that the spec leaves open are the model's (logs 11 to 14, 21). -/
def Obligations.AssembleSettlesTheCodeRange : Prop :=
  ∀ (source : Text) (s : State), s.runState ≠ .running →
    let t := (assemble source s).2
    let origin := s.params.origin.toNat
    let placed := placeLines origin (sourceLines source)
    let table := labelsOf placed
    ((∃ len, (assemble source s).1 = .success len) ↔
      (∀ e ∈ table, ∀ r ∈ s.params.reservedSymbols, upperText r ≠ upperText e.1) ∧ (table.map Prod.fst).Nodup ∧
      ∀ p ∈ placed, p.2.body ≠ [] → ∃ bytes, lineBytes table p.2.body p.1 = .ok bytes) ∧
    t.regs = ⟨0x00, 0x00, 0x00, 0xFF, s.params.origin⟩ ∧
    t.flags = ⟨false, false, true, false, false, false, false, false⟩ ∧ t.fault = none ∧ t.refused = none ∧
    t.codeStart = s.params.origin ∧
    match (assemble source s).1 with
    | .success len =>
      t.runState = .ready ∧ t.codeLen = len ∧ t.codeValid = true ∧ t.symbols = table ∧
      len = ((sourceLines source).map SourceLine.length).sum ∧
      (∀ p ∈ placed, ∀ bytes, p.2.body ≠ [] → lineBytes table p.2.body p.1 = .ok bytes →
        ∀ j b, bytes[j]? = some b → t.peek (BitVec.ofNat 16 (p.1 + j)) = b) ∧
      (∀ a : Word, (a.toNat < origin ∨ origin + len ≤ a.toNat) → t.peek a = 0x00) ∧
      ∃ text, t.events = s.events ++ .labelsInfo table.length text ::
        ((placed.flatMap (lineWrites table)).map (fun w => .changed w.1 w.2) ++ [.assembleSuccess])
    | .failure e =>
      t.runState = .initialized ∧ t.codeLen = 0 ∧ t.codeValid = false ∧ t.symbols = [] ∧
      ∃ new text, t.events = s.events ++ new ++ [.assembleFailure e text]
    | .rejected => False

/-- "pass 1 and pass 2 compute the same length for every line that has no error" (R280). -/
def Obligations.PassesAgreeOnLengths : Prop :=
  ∀ (table : SymbolTable) (l : SourceLine) (pc2 : Nat) (bytes : List Byte),
    lineBytes table l.body pc2 = .ok bytes →
    bytes.length = l.length ∧ ∃ op row, bytes.head? = some op ∧ lookup op = some row ∧ row.length = bytes.length

/-- "the two never disagree about length or meaning" (R81, R290). -/
def Obligations.DisassemblerAgreesWithTheDecoder : Prop :=
  ∀ (s : State) (i : Instr), s.fetched = .ok i →
    ∃ r, s.disassembly s.pc.toNat (s.pc.toNat + 1) = [r] ∧ r.address = s.pc.toNat ∧ r.bytes = encode s.params i

/-- R294, an inference the spec marks as derived. -/
def Obligations.AssembleThenDisassembleGivesTheLines : Prop :=
  ∀ (source : Text) (s t : State) (len : Nat), s.params.wellFormed = true → assemble source s = (.success len, t) →
    let lines := (sourceLines source).filter (fun l => decide (l.body ≠ []))
    let records := t.disassembly t.codeStart.toNat (t.codeStart.toNat + t.codeLen)
    records.length = lines.length ∧
    ∀ (k : Nat) (l : SourceLine) (r : DisasmRecord), lines[k]? = some l → records[k]? = some r →
      ∃ row form, parseBody l.body = .ok (row, form) ∧ r.mode = some row.mode ∧ r.mnemonic = row.mnemonic.name ∧
        lineBytes t.symbols l.body r.address = .ok r.bytes

/-- R72. -/
def Obligations.ViewsOnlyRead : Prop :=
  ∀ (s : State) (range : Option (Nat × Nat)),
    (∃ e, (hostDo (.disassemble range) s).2 = { s with events := s.events ++ [e] } ∧ e.kind = .disassembly) ∧
    (∃ e, (hostDo (.hexdump range) s).2 = { s with events := s.events ++ [e] } ∧ e.kind = .hexdump)

/-- R244 to R248 and the table of R249: decisions D33, D34 and D35 of the spec (log 16). That enableDebugger in Running is carried to the boundary by breakpointHit is the model's (DEDUCED, log 10). The last clause is R61 and R253 (decision D30); that an input write is accepted in every run state is the model's reading (DEDUCED, log 18). -/
def Obligations.AcceptedOperationsLeadWhereTheTableSays : Prop :=
  ∀ (s : State) (a : Word) (v : Nat),
    (s.runState = .ready ∨ s.runState = .debuggingPaused ∨ s.runState = .stopped → ∃ text, hostDo (.goto a) s =
      (.done, { s with pc := a, events := s.events ++ [.engine .goto { s.snapshot with pc := a } text] })) ∧
    (s.runState = .ready → ∃ text, hostDo .run s =
      (.done, { s with runState := .running, stopRequested := false, breakpointHit := false
                       events := s.events ++ [.engine .start s.snapshot text] })) ∧
    hostDo .stop s = (.done, { s with stopRequested := s.stopRequested || decide (s.runState = .running) }) ∧
    (s.runState = .ready →
      hostDo .enableDebugger s = (.done, { s with debuggerEnabled := true, runState := .debuggingPaused })) ∧
    (s.runState = .running → hostDo .enableDebugger s = (.done, { s with breakpointHit := true })) ∧
    (s.runState = .running → s.stopRequested = true → ∃ text, hostDo .boundary s =
      (.done, { s with runState := .stopped, stopRequested := false
                       events := s.events ++ [.engine .stop s.snapshot text] })) ∧
    (s.runState = .running → s.stopRequested = false → s.breakpointHit = true → hostDo .boundary s =
      (.done, { s with runState := .debuggingPaused, debuggerEnabled := true, breakpointHit := false })) ∧
    (s.runState ≠ .running ∨ (s.stopRequested = false ∧ s.breakpointHit = false) → hostDo .boundary s = (.done, s)) ∧
    (s.runState = .debuggingPaused →
      hostDo .disableDebugger s = (.done, { s with debuggerEnabled := false, runState := .ready })) ∧
    (s.runState = .debuggingPaused → ∃ t u text, step { s with runState := .debugging } = .next t ∧
      hostDo .step s = (.stepped t.lastResult, u) ∧
      u = { t with breakLatch := if t.lastResult = .executed then none else t.breakLatch
                   runState := if t.runState = .debugging then .debuggingPaused else t.runState
                   events := t.events ++ [.engine .step t.snapshot text] } ∧
      (u.runState = .debuggingPaused ∨ u.runState = .completed ∨ u.runState = .stopped)) ∧
    (a ∈ s.params.hostInputAddrs → hostDo (.write a v) s = (.done, s.memSet a v))
end

