-- ==== Sys2Proof/Laws/State.lean ====
section
/-! SUPPORT. One lemma per field per register or control update, true by rfl, so that no proof unfolds an update. -/

namespace Sys2Proof.Machine

variable (s : State)

@[simp] theorem State.setA_a (v : Byte) : (s.setA v).a = v := rfl
@[simp] theorem State.setA_x (v : Byte) : (s.setA v).x = s.x := rfl
@[simp] theorem State.setA_y (v : Byte) : (s.setA v).y = s.y := rfl
@[simp] theorem State.setA_sp (v : Byte) : (s.setA v).sp = s.sp := rfl
@[simp] theorem State.setA_p (v : Byte) : (s.setA v).p = s.p := rfl
@[simp] theorem State.setA_pc (v : Byte) : (s.setA v).pc = s.pc := rfl
@[simp] theorem State.setA_mem (v : Byte) : (s.setA v).mem = s.mem := rfl
@[simp] theorem State.setA_runState (v : Byte) : (s.setA v).runState = s.runState := rfl
@[simp] theorem State.setA_codeStart (v : Byte) : (s.setA v).codeStart = s.codeStart := rfl
@[simp] theorem State.setA_codeLen (v : Byte) : (s.setA v).codeLen = s.codeLen := rfl
@[simp] theorem State.setA_codeValid (v : Byte) : (s.setA v).codeValid = s.codeValid := rfl
@[simp] theorem State.setA_fault (v : Byte) : (s.setA v).fault = s.fault := rfl
@[simp] theorem State.setA_stopRequested (v : Byte) : (s.setA v).stopRequested = s.stopRequested := rfl
@[simp] theorem State.setA_events (v : Byte) : (s.setA v).events = s.events := rfl
@[simp] theorem State.setA_refused (v : Byte) : (s.setA v).refused = s.refused := rfl
@[simp] theorem State.setA_symbols (v : Byte) : (s.setA v).symbols = s.symbols := rfl
@[simp] theorem State.setA_debuggerEnabled (v : Byte) : (s.setA v).debuggerEnabled = s.debuggerEnabled := rfl
@[simp] theorem State.setA_breakLatch (v : Byte) : (s.setA v).breakLatch = s.breakLatch := rfl
@[simp] theorem State.setA_breakpointHit (v : Byte) : (s.setA v).breakpointHit = s.breakpointHit := rfl
@[simp] theorem State.setA_lastResult (v : Byte) : (s.setA v).lastResult = s.lastResult := rfl
@[simp] theorem State.setA_params (v : Byte) : (s.setA v).params = s.params := rfl

@[simp] theorem State.setX_a (v : Byte) : (s.setX v).a = s.a := rfl
@[simp] theorem State.setX_x (v : Byte) : (s.setX v).x = v := rfl
@[simp] theorem State.setX_y (v : Byte) : (s.setX v).y = s.y := rfl
@[simp] theorem State.setX_sp (v : Byte) : (s.setX v).sp = s.sp := rfl
@[simp] theorem State.setX_p (v : Byte) : (s.setX v).p = s.p := rfl
@[simp] theorem State.setX_pc (v : Byte) : (s.setX v).pc = s.pc := rfl
@[simp] theorem State.setX_mem (v : Byte) : (s.setX v).mem = s.mem := rfl
@[simp] theorem State.setX_runState (v : Byte) : (s.setX v).runState = s.runState := rfl
@[simp] theorem State.setX_codeStart (v : Byte) : (s.setX v).codeStart = s.codeStart := rfl
@[simp] theorem State.setX_codeLen (v : Byte) : (s.setX v).codeLen = s.codeLen := rfl
@[simp] theorem State.setX_codeValid (v : Byte) : (s.setX v).codeValid = s.codeValid := rfl
@[simp] theorem State.setX_fault (v : Byte) : (s.setX v).fault = s.fault := rfl
@[simp] theorem State.setX_stopRequested (v : Byte) : (s.setX v).stopRequested = s.stopRequested := rfl
@[simp] theorem State.setX_events (v : Byte) : (s.setX v).events = s.events := rfl
@[simp] theorem State.setX_refused (v : Byte) : (s.setX v).refused = s.refused := rfl
@[simp] theorem State.setX_symbols (v : Byte) : (s.setX v).symbols = s.symbols := rfl
@[simp] theorem State.setX_debuggerEnabled (v : Byte) : (s.setX v).debuggerEnabled = s.debuggerEnabled := rfl
@[simp] theorem State.setX_breakLatch (v : Byte) : (s.setX v).breakLatch = s.breakLatch := rfl
@[simp] theorem State.setX_breakpointHit (v : Byte) : (s.setX v).breakpointHit = s.breakpointHit := rfl
@[simp] theorem State.setX_lastResult (v : Byte) : (s.setX v).lastResult = s.lastResult := rfl
@[simp] theorem State.setX_params (v : Byte) : (s.setX v).params = s.params := rfl

@[simp] theorem State.setY_a (v : Byte) : (s.setY v).a = s.a := rfl
@[simp] theorem State.setY_x (v : Byte) : (s.setY v).x = s.x := rfl
@[simp] theorem State.setY_y (v : Byte) : (s.setY v).y = v := rfl
@[simp] theorem State.setY_sp (v : Byte) : (s.setY v).sp = s.sp := rfl
@[simp] theorem State.setY_p (v : Byte) : (s.setY v).p = s.p := rfl
@[simp] theorem State.setY_pc (v : Byte) : (s.setY v).pc = s.pc := rfl
@[simp] theorem State.setY_mem (v : Byte) : (s.setY v).mem = s.mem := rfl
@[simp] theorem State.setY_runState (v : Byte) : (s.setY v).runState = s.runState := rfl
@[simp] theorem State.setY_codeStart (v : Byte) : (s.setY v).codeStart = s.codeStart := rfl
@[simp] theorem State.setY_codeLen (v : Byte) : (s.setY v).codeLen = s.codeLen := rfl
@[simp] theorem State.setY_codeValid (v : Byte) : (s.setY v).codeValid = s.codeValid := rfl
@[simp] theorem State.setY_fault (v : Byte) : (s.setY v).fault = s.fault := rfl
@[simp] theorem State.setY_stopRequested (v : Byte) : (s.setY v).stopRequested = s.stopRequested := rfl
@[simp] theorem State.setY_events (v : Byte) : (s.setY v).events = s.events := rfl
@[simp] theorem State.setY_refused (v : Byte) : (s.setY v).refused = s.refused := rfl
@[simp] theorem State.setY_symbols (v : Byte) : (s.setY v).symbols = s.symbols := rfl
@[simp] theorem State.setY_debuggerEnabled (v : Byte) : (s.setY v).debuggerEnabled = s.debuggerEnabled := rfl
@[simp] theorem State.setY_breakLatch (v : Byte) : (s.setY v).breakLatch = s.breakLatch := rfl
@[simp] theorem State.setY_breakpointHit (v : Byte) : (s.setY v).breakpointHit = s.breakpointHit := rfl
@[simp] theorem State.setY_lastResult (v : Byte) : (s.setY v).lastResult = s.lastResult := rfl
@[simp] theorem State.setY_params (v : Byte) : (s.setY v).params = s.params := rfl

@[simp] theorem State.setSp_a (v : Byte) : (s.setSp v).a = s.a := rfl
@[simp] theorem State.setSp_x (v : Byte) : (s.setSp v).x = s.x := rfl
@[simp] theorem State.setSp_y (v : Byte) : (s.setSp v).y = s.y := rfl
@[simp] theorem State.setSp_sp (v : Byte) : (s.setSp v).sp = v := rfl
@[simp] theorem State.setSp_p (v : Byte) : (s.setSp v).p = s.p := rfl
@[simp] theorem State.setSp_pc (v : Byte) : (s.setSp v).pc = s.pc := rfl
@[simp] theorem State.setSp_mem (v : Byte) : (s.setSp v).mem = s.mem := rfl
@[simp] theorem State.setSp_runState (v : Byte) : (s.setSp v).runState = s.runState := rfl
@[simp] theorem State.setSp_codeStart (v : Byte) : (s.setSp v).codeStart = s.codeStart := rfl
@[simp] theorem State.setSp_codeLen (v : Byte) : (s.setSp v).codeLen = s.codeLen := rfl
@[simp] theorem State.setSp_codeValid (v : Byte) : (s.setSp v).codeValid = s.codeValid := rfl
@[simp] theorem State.setSp_fault (v : Byte) : (s.setSp v).fault = s.fault := rfl
@[simp] theorem State.setSp_stopRequested (v : Byte) : (s.setSp v).stopRequested = s.stopRequested := rfl
@[simp] theorem State.setSp_events (v : Byte) : (s.setSp v).events = s.events := rfl
@[simp] theorem State.setSp_refused (v : Byte) : (s.setSp v).refused = s.refused := rfl
@[simp] theorem State.setSp_symbols (v : Byte) : (s.setSp v).symbols = s.symbols := rfl
@[simp] theorem State.setSp_debuggerEnabled (v : Byte) : (s.setSp v).debuggerEnabled = s.debuggerEnabled := rfl
@[simp] theorem State.setSp_breakLatch (v : Byte) : (s.setSp v).breakLatch = s.breakLatch := rfl
@[simp] theorem State.setSp_breakpointHit (v : Byte) : (s.setSp v).breakpointHit = s.breakpointHit := rfl
@[simp] theorem State.setSp_lastResult (v : Byte) : (s.setSp v).lastResult = s.lastResult := rfl
@[simp] theorem State.setSp_params (v : Byte) : (s.setSp v).params = s.params := rfl

@[simp] theorem State.setP_a (v : Byte) : (s.setP v).a = s.a := rfl
@[simp] theorem State.setP_x (v : Byte) : (s.setP v).x = s.x := rfl
@[simp] theorem State.setP_y (v : Byte) : (s.setP v).y = s.y := rfl
@[simp] theorem State.setP_sp (v : Byte) : (s.setP v).sp = s.sp := rfl
@[simp] theorem State.setP_p (v : Byte) : (s.setP v).p = v := rfl
@[simp] theorem State.setP_pc (v : Byte) : (s.setP v).pc = s.pc := rfl
@[simp] theorem State.setP_mem (v : Byte) : (s.setP v).mem = s.mem := rfl
@[simp] theorem State.setP_runState (v : Byte) : (s.setP v).runState = s.runState := rfl
@[simp] theorem State.setP_codeStart (v : Byte) : (s.setP v).codeStart = s.codeStart := rfl
@[simp] theorem State.setP_codeLen (v : Byte) : (s.setP v).codeLen = s.codeLen := rfl
@[simp] theorem State.setP_codeValid (v : Byte) : (s.setP v).codeValid = s.codeValid := rfl
@[simp] theorem State.setP_fault (v : Byte) : (s.setP v).fault = s.fault := rfl
@[simp] theorem State.setP_stopRequested (v : Byte) : (s.setP v).stopRequested = s.stopRequested := rfl
@[simp] theorem State.setP_events (v : Byte) : (s.setP v).events = s.events := rfl
@[simp] theorem State.setP_refused (v : Byte) : (s.setP v).refused = s.refused := rfl
@[simp] theorem State.setP_symbols (v : Byte) : (s.setP v).symbols = s.symbols := rfl
@[simp] theorem State.setP_debuggerEnabled (v : Byte) : (s.setP v).debuggerEnabled = s.debuggerEnabled := rfl
@[simp] theorem State.setP_breakLatch (v : Byte) : (s.setP v).breakLatch = s.breakLatch := rfl
@[simp] theorem State.setP_breakpointHit (v : Byte) : (s.setP v).breakpointHit = s.breakpointHit := rfl
@[simp] theorem State.setP_lastResult (v : Byte) : (s.setP v).lastResult = s.lastResult := rfl
@[simp] theorem State.setP_params (v : Byte) : (s.setP v).params = s.params := rfl

@[simp] theorem State.setPc_a (v : Word) : (s.setPc v).a = s.a := rfl
@[simp] theorem State.setPc_x (v : Word) : (s.setPc v).x = s.x := rfl
@[simp] theorem State.setPc_y (v : Word) : (s.setPc v).y = s.y := rfl
@[simp] theorem State.setPc_sp (v : Word) : (s.setPc v).sp = s.sp := rfl
@[simp] theorem State.setPc_p (v : Word) : (s.setPc v).p = s.p := rfl
@[simp] theorem State.setPc_pc (v : Word) : (s.setPc v).pc = v := rfl
@[simp] theorem State.setPc_mem (v : Word) : (s.setPc v).mem = s.mem := rfl
@[simp] theorem State.setPc_runState (v : Word) : (s.setPc v).runState = s.runState := rfl
@[simp] theorem State.setPc_codeStart (v : Word) : (s.setPc v).codeStart = s.codeStart := rfl
@[simp] theorem State.setPc_codeLen (v : Word) : (s.setPc v).codeLen = s.codeLen := rfl
@[simp] theorem State.setPc_codeValid (v : Word) : (s.setPc v).codeValid = s.codeValid := rfl
@[simp] theorem State.setPc_fault (v : Word) : (s.setPc v).fault = s.fault := rfl
@[simp] theorem State.setPc_stopRequested (v : Word) : (s.setPc v).stopRequested = s.stopRequested := rfl
@[simp] theorem State.setPc_events (v : Word) : (s.setPc v).events = s.events := rfl
@[simp] theorem State.setPc_refused (v : Word) : (s.setPc v).refused = s.refused := rfl
@[simp] theorem State.setPc_symbols (v : Word) : (s.setPc v).symbols = s.symbols := rfl
@[simp] theorem State.setPc_debuggerEnabled (v : Word) : (s.setPc v).debuggerEnabled = s.debuggerEnabled := rfl
@[simp] theorem State.setPc_breakLatch (v : Word) : (s.setPc v).breakLatch = s.breakLatch := rfl
@[simp] theorem State.setPc_breakpointHit (v : Word) : (s.setPc v).breakpointHit = s.breakpointHit := rfl
@[simp] theorem State.setPc_lastResult (v : Word) : (s.setPc v).lastResult = s.lastResult := rfl
@[simp] theorem State.setPc_params (v : Word) : (s.setPc v).params = s.params := rfl

@[simp] theorem State.setMem_a (m : Memory) : (s.setMem m).a = s.a := rfl
@[simp] theorem State.setMem_x (m : Memory) : (s.setMem m).x = s.x := rfl
@[simp] theorem State.setMem_y (m : Memory) : (s.setMem m).y = s.y := rfl
@[simp] theorem State.setMem_sp (m : Memory) : (s.setMem m).sp = s.sp := rfl
@[simp] theorem State.setMem_p (m : Memory) : (s.setMem m).p = s.p := rfl
@[simp] theorem State.setMem_pc (m : Memory) : (s.setMem m).pc = s.pc := rfl
@[simp] theorem State.setMem_mem (m : Memory) : (s.setMem m).mem = m := rfl
@[simp] theorem State.setMem_runState (m : Memory) : (s.setMem m).runState = s.runState := rfl
@[simp] theorem State.setMem_codeStart (m : Memory) : (s.setMem m).codeStart = s.codeStart := rfl
@[simp] theorem State.setMem_codeLen (m : Memory) : (s.setMem m).codeLen = s.codeLen := rfl
@[simp] theorem State.setMem_codeValid (m : Memory) : (s.setMem m).codeValid = s.codeValid := rfl
@[simp] theorem State.setMem_fault (m : Memory) : (s.setMem m).fault = s.fault := rfl
@[simp] theorem State.setMem_stopRequested (m : Memory) : (s.setMem m).stopRequested = s.stopRequested := rfl
@[simp] theorem State.setMem_events (m : Memory) : (s.setMem m).events = s.events := rfl
@[simp] theorem State.setMem_refused (m : Memory) : (s.setMem m).refused = s.refused := rfl
@[simp] theorem State.setMem_symbols (m : Memory) : (s.setMem m).symbols = s.symbols := rfl
@[simp] theorem State.setMem_debuggerEnabled (m : Memory) : (s.setMem m).debuggerEnabled = s.debuggerEnabled := rfl
@[simp] theorem State.setMem_breakLatch (m : Memory) : (s.setMem m).breakLatch = s.breakLatch := rfl
@[simp] theorem State.setMem_breakpointHit (m : Memory) : (s.setMem m).breakpointHit = s.breakpointHit := rfl
@[simp] theorem State.setMem_lastResult (m : Memory) : (s.setMem m).lastResult = s.lastResult := rfl
@[simp] theorem State.setMem_params (m : Memory) : (s.setMem m).params = s.params := rfl

@[simp] theorem State.setRunState_a (r : RunState) : (s.setRunState r).a = s.a := rfl
@[simp] theorem State.setRunState_x (r : RunState) : (s.setRunState r).x = s.x := rfl
@[simp] theorem State.setRunState_y (r : RunState) : (s.setRunState r).y = s.y := rfl
@[simp] theorem State.setRunState_sp (r : RunState) : (s.setRunState r).sp = s.sp := rfl
@[simp] theorem State.setRunState_p (r : RunState) : (s.setRunState r).p = s.p := rfl
@[simp] theorem State.setRunState_pc (r : RunState) : (s.setRunState r).pc = s.pc := rfl
@[simp] theorem State.setRunState_mem (r : RunState) : (s.setRunState r).mem = s.mem := rfl
@[simp] theorem State.setRunState_runState (r : RunState) : (s.setRunState r).runState = r := rfl
@[simp] theorem State.setRunState_codeStart (r : RunState) : (s.setRunState r).codeStart = s.codeStart := rfl
@[simp] theorem State.setRunState_codeLen (r : RunState) : (s.setRunState r).codeLen = s.codeLen := rfl
@[simp] theorem State.setRunState_codeValid (r : RunState) : (s.setRunState r).codeValid = s.codeValid := rfl
@[simp] theorem State.setRunState_fault (r : RunState) : (s.setRunState r).fault = s.fault := rfl
@[simp] theorem State.setRunState_stopRequested (r : RunState) : (s.setRunState r).stopRequested = s.stopRequested := rfl
@[simp] theorem State.setRunState_events (r : RunState) : (s.setRunState r).events = s.events := rfl
@[simp] theorem State.setRunState_refused (r : RunState) : (s.setRunState r).refused = s.refused := rfl
@[simp] theorem State.setRunState_symbols (r : RunState) : (s.setRunState r).symbols = s.symbols := rfl
@[simp] theorem State.setRunState_debuggerEnabled (r : RunState) : (s.setRunState r).debuggerEnabled = s.debuggerEnabled := rfl
@[simp] theorem State.setRunState_breakLatch (r : RunState) : (s.setRunState r).breakLatch = s.breakLatch := rfl
@[simp] theorem State.setRunState_breakpointHit (r : RunState) : (s.setRunState r).breakpointHit = s.breakpointHit := rfl
@[simp] theorem State.setRunState_lastResult (r : RunState) : (s.setRunState r).lastResult = s.lastResult := rfl
@[simp] theorem State.setRunState_params (r : RunState) : (s.setRunState r).params = s.params := rfl

@[simp] theorem State.setResult_a (r : StepResult) : (s.setResult r).a = s.a := rfl
@[simp] theorem State.setResult_x (r : StepResult) : (s.setResult r).x = s.x := rfl
@[simp] theorem State.setResult_y (r : StepResult) : (s.setResult r).y = s.y := rfl
@[simp] theorem State.setResult_sp (r : StepResult) : (s.setResult r).sp = s.sp := rfl
@[simp] theorem State.setResult_p (r : StepResult) : (s.setResult r).p = s.p := rfl
@[simp] theorem State.setResult_pc (r : StepResult) : (s.setResult r).pc = s.pc := rfl
@[simp] theorem State.setResult_mem (r : StepResult) : (s.setResult r).mem = s.mem := rfl
@[simp] theorem State.setResult_runState (r : StepResult) : (s.setResult r).runState = s.runState := rfl
@[simp] theorem State.setResult_codeStart (r : StepResult) : (s.setResult r).codeStart = s.codeStart := rfl
@[simp] theorem State.setResult_codeLen (r : StepResult) : (s.setResult r).codeLen = s.codeLen := rfl
@[simp] theorem State.setResult_codeValid (r : StepResult) : (s.setResult r).codeValid = s.codeValid := rfl
@[simp] theorem State.setResult_fault (r : StepResult) : (s.setResult r).fault = s.fault := rfl
@[simp] theorem State.setResult_stopRequested (r : StepResult) : (s.setResult r).stopRequested = s.stopRequested := rfl
@[simp] theorem State.setResult_events (r : StepResult) : (s.setResult r).events = s.events := rfl
@[simp] theorem State.setResult_refused (r : StepResult) : (s.setResult r).refused = s.refused := rfl
@[simp] theorem State.setResult_symbols (r : StepResult) : (s.setResult r).symbols = s.symbols := rfl
@[simp] theorem State.setResult_debuggerEnabled (r : StepResult) : (s.setResult r).debuggerEnabled = s.debuggerEnabled := rfl
@[simp] theorem State.setResult_breakLatch (r : StepResult) : (s.setResult r).breakLatch = s.breakLatch := rfl
@[simp] theorem State.setResult_breakpointHit (r : StepResult) : (s.setResult r).breakpointHit = s.breakpointHit := rfl
@[simp] theorem State.setResult_lastResult (r : StepResult) : (s.setResult r).lastResult = r := rfl
@[simp] theorem State.setResult_params (r : StepResult) : (s.setResult r).params = s.params := rfl

@[simp] theorem State.setFault_a (f : Option FaultRecord) : (s.setFault f).a = s.a := rfl
@[simp] theorem State.setFault_x (f : Option FaultRecord) : (s.setFault f).x = s.x := rfl
@[simp] theorem State.setFault_y (f : Option FaultRecord) : (s.setFault f).y = s.y := rfl
@[simp] theorem State.setFault_sp (f : Option FaultRecord) : (s.setFault f).sp = s.sp := rfl
@[simp] theorem State.setFault_p (f : Option FaultRecord) : (s.setFault f).p = s.p := rfl
@[simp] theorem State.setFault_pc (f : Option FaultRecord) : (s.setFault f).pc = s.pc := rfl
@[simp] theorem State.setFault_mem (f : Option FaultRecord) : (s.setFault f).mem = s.mem := rfl
@[simp] theorem State.setFault_runState (f : Option FaultRecord) : (s.setFault f).runState = s.runState := rfl
@[simp] theorem State.setFault_codeStart (f : Option FaultRecord) : (s.setFault f).codeStart = s.codeStart := rfl
@[simp] theorem State.setFault_codeLen (f : Option FaultRecord) : (s.setFault f).codeLen = s.codeLen := rfl
@[simp] theorem State.setFault_codeValid (f : Option FaultRecord) : (s.setFault f).codeValid = s.codeValid := rfl
@[simp] theorem State.setFault_fault (f : Option FaultRecord) : (s.setFault f).fault = f := rfl
@[simp] theorem State.setFault_stopRequested (f : Option FaultRecord) : (s.setFault f).stopRequested = s.stopRequested := rfl
@[simp] theorem State.setFault_events (f : Option FaultRecord) : (s.setFault f).events = s.events := rfl
@[simp] theorem State.setFault_refused (f : Option FaultRecord) : (s.setFault f).refused = s.refused := rfl
@[simp] theorem State.setFault_symbols (f : Option FaultRecord) : (s.setFault f).symbols = s.symbols := rfl
@[simp] theorem State.setFault_debuggerEnabled (f : Option FaultRecord) : (s.setFault f).debuggerEnabled = s.debuggerEnabled := rfl
@[simp] theorem State.setFault_breakLatch (f : Option FaultRecord) : (s.setFault f).breakLatch = s.breakLatch := rfl
@[simp] theorem State.setFault_breakpointHit (f : Option FaultRecord) : (s.setFault f).breakpointHit = s.breakpointHit := rfl
@[simp] theorem State.setFault_lastResult (f : Option FaultRecord) : (s.setFault f).lastResult = s.lastResult := rfl
@[simp] theorem State.setFault_params (f : Option FaultRecord) : (s.setFault f).params = s.params := rfl

@[simp] theorem State.setRefused_a (r : Option RefusalRecord) : (s.setRefused r).a = s.a := rfl
@[simp] theorem State.setRefused_x (r : Option RefusalRecord) : (s.setRefused r).x = s.x := rfl
@[simp] theorem State.setRefused_y (r : Option RefusalRecord) : (s.setRefused r).y = s.y := rfl
@[simp] theorem State.setRefused_sp (r : Option RefusalRecord) : (s.setRefused r).sp = s.sp := rfl
@[simp] theorem State.setRefused_p (r : Option RefusalRecord) : (s.setRefused r).p = s.p := rfl
@[simp] theorem State.setRefused_pc (r : Option RefusalRecord) : (s.setRefused r).pc = s.pc := rfl
@[simp] theorem State.setRefused_mem (r : Option RefusalRecord) : (s.setRefused r).mem = s.mem := rfl
@[simp] theorem State.setRefused_runState (r : Option RefusalRecord) : (s.setRefused r).runState = s.runState := rfl
@[simp] theorem State.setRefused_codeStart (r : Option RefusalRecord) : (s.setRefused r).codeStart = s.codeStart := rfl
@[simp] theorem State.setRefused_codeLen (r : Option RefusalRecord) : (s.setRefused r).codeLen = s.codeLen := rfl
@[simp] theorem State.setRefused_codeValid (r : Option RefusalRecord) : (s.setRefused r).codeValid = s.codeValid := rfl
@[simp] theorem State.setRefused_fault (r : Option RefusalRecord) : (s.setRefused r).fault = s.fault := rfl
@[simp] theorem State.setRefused_stopRequested (r : Option RefusalRecord) : (s.setRefused r).stopRequested = s.stopRequested := rfl
@[simp] theorem State.setRefused_events (r : Option RefusalRecord) : (s.setRefused r).events = s.events := rfl
@[simp] theorem State.setRefused_refused (r : Option RefusalRecord) : (s.setRefused r).refused = r := rfl
@[simp] theorem State.setRefused_symbols (r : Option RefusalRecord) : (s.setRefused r).symbols = s.symbols := rfl
@[simp] theorem State.setRefused_debuggerEnabled (r : Option RefusalRecord) : (s.setRefused r).debuggerEnabled = s.debuggerEnabled := rfl
@[simp] theorem State.setRefused_breakLatch (r : Option RefusalRecord) : (s.setRefused r).breakLatch = s.breakLatch := rfl
@[simp] theorem State.setRefused_breakpointHit (r : Option RefusalRecord) : (s.setRefused r).breakpointHit = s.breakpointHit := rfl
@[simp] theorem State.setRefused_lastResult (r : Option RefusalRecord) : (s.setRefused r).lastResult = s.lastResult := rfl
@[simp] theorem State.setRefused_params (r : Option RefusalRecord) : (s.setRefused r).params = s.params := rfl

@[simp] theorem State.addEvent_a (e : Event) : (s.addEvent e).a = s.a := rfl
@[simp] theorem State.addEvent_x (e : Event) : (s.addEvent e).x = s.x := rfl
@[simp] theorem State.addEvent_y (e : Event) : (s.addEvent e).y = s.y := rfl
@[simp] theorem State.addEvent_sp (e : Event) : (s.addEvent e).sp = s.sp := rfl
@[simp] theorem State.addEvent_p (e : Event) : (s.addEvent e).p = s.p := rfl
@[simp] theorem State.addEvent_pc (e : Event) : (s.addEvent e).pc = s.pc := rfl
@[simp] theorem State.addEvent_mem (e : Event) : (s.addEvent e).mem = s.mem := rfl
@[simp] theorem State.addEvent_runState (e : Event) : (s.addEvent e).runState = s.runState := rfl
@[simp] theorem State.addEvent_codeStart (e : Event) : (s.addEvent e).codeStart = s.codeStart := rfl
@[simp] theorem State.addEvent_codeLen (e : Event) : (s.addEvent e).codeLen = s.codeLen := rfl
@[simp] theorem State.addEvent_codeValid (e : Event) : (s.addEvent e).codeValid = s.codeValid := rfl
@[simp] theorem State.addEvent_fault (e : Event) : (s.addEvent e).fault = s.fault := rfl
@[simp] theorem State.addEvent_stopRequested (e : Event) : (s.addEvent e).stopRequested = s.stopRequested := rfl
@[simp] theorem State.addEvent_events (e : Event) : (s.addEvent e).events = s.events ++ [e] := rfl
@[simp] theorem State.addEvent_refused (e : Event) : (s.addEvent e).refused = s.refused := rfl
@[simp] theorem State.addEvent_symbols (e : Event) : (s.addEvent e).symbols = s.symbols := rfl
@[simp] theorem State.addEvent_debuggerEnabled (e : Event) : (s.addEvent e).debuggerEnabled = s.debuggerEnabled := rfl
@[simp] theorem State.addEvent_breakLatch (e : Event) : (s.addEvent e).breakLatch = s.breakLatch := rfl
@[simp] theorem State.addEvent_breakpointHit (e : Event) : (s.addEvent e).breakpointHit = s.breakpointHit := rfl
@[simp] theorem State.addEvent_lastResult (e : Event) : (s.addEvent e).lastResult = s.lastResult := rfl
@[simp] theorem State.addEvent_params (e : Event) : (s.addEvent e).params = s.params := rfl

end Sys2Proof.Machine
end

