-- ==== Sys2Proof/Laws/Memory.lean ====
section
/-! SUPPORT. Memory: reads after writes, and the canonical form that every memory operation keeps. -/

namespace Sys2Proof.Machine

/-! ## Reads -/

@[simp] theorem Memory.read_nil (a : Nat) : Memory.read [] a = 0 := rfl

theorem Memory.read_cons (k : Nat) (v : Byte) (m : Memory) (a : Nat) :
    Memory.read ((k, v) :: m) a = if k = a then v else m.read a := rfl

theorem Memory.read_erase (m : Memory) (a b : Nat) :
    (m.erase a).read b = if b = a then 0 else m.read b := by
  induction m with
  | nil => simp [Memory.erase]
  | cons e rest ih =>
    obtain ⟨k, v⟩ := e
    simp only [Memory.erase]
    split
    · subst k; rw [ih]; split
      · rfl
      · rename_i h; simp [Memory.read_cons, Ne.symm h]
    · rename_i h; rw [Memory.read_cons, ih]
      split
      · subst k; simp [h, Memory.read_cons]
      · rename_i h'; simp [Memory.read_cons, h']

theorem Memory.fst_ne_of_mem_erase {m : Memory} {a : Nat} {e : Host.Cell} (h : e ∈ m.erase a) : e.1 ≠ a := by
  induction m with
  | nil => simp [Memory.erase] at h
  | cons c rest ih =>
    obtain ⟨k, v⟩ := c
    simp only [Memory.erase] at h
    split at h
    · exact ih h
    · rcases List.mem_cons.1 h with rfl | h
      · assumption
      · exact ih h

theorem Memory.read_insert (m : Memory) (a b : Nat) (v : Byte) (h : ∀ e ∈ m, e.1 ≠ a) :
    (m.insert a v).read b = if b = a then v else m.read b := by
  induction m with
  | nil => simp [Memory.insert, Memory.read_cons, eq_comm]
  | cons e rest ih =>
    obtain ⟨k, w⟩ := e
    have hk : k ≠ a := h (k, w) (by simp)
    have ih := ih (fun e he => h e (by simp [he]))
    simp only [Memory.insert]
    split
    · simp [Memory.read_cons, eq_comm (a := a)]
    · rw [Memory.read_cons, ih]
      by_cases hb : b = a
      · subst hb; simp [hk]
      · simp [hb, Memory.read_cons]

/-- A read after a write: the value written at its address, the old byte everywhere else. -/
theorem Memory.read_write (m : Memory) (a b : Nat) (v : Byte) :
    (m.write a v).read b = if b = a then v else m.read b := by
  unfold Memory.write
  split
  · subst v; exact Memory.read_erase m a b
  · rw [Memory.read_insert _ _ _ _ (fun e he => Memory.fst_ne_of_mem_erase he), Memory.read_erase]
    split <;> rfl

/-! ## The canonical form -/

theorem Memory.wfFrom_mono {lo lo' : Nat} {m : Memory} (h : lo' ≤ lo) (hm : m.wfFrom lo = true) :
    m.wfFrom lo' = true := by
  cases m with
  | nil => rfl
  | cons e rest =>
    obtain ⟨k, v⟩ := e
    simp only [Memory.wfFrom, Bool.and_eq_true, decide_eq_true_eq] at hm ⊢
    exact ⟨⟨⟨by omega, hm.1.1.2⟩, hm.1.2⟩, hm.2⟩

theorem Memory.erase_wfFrom {lo : Nat} {m : Memory} (a : Nat) (h : m.wfFrom lo = true) :
    (m.erase a).wfFrom lo = true := by
  induction m generalizing lo with
  | nil => rfl
  | cons e rest ih =>
    obtain ⟨k, v⟩ := e
    simp only [Memory.wfFrom, Bool.and_eq_true, decide_eq_true_eq] at h
    simp only [Memory.erase]
    split
    · exact Memory.wfFrom_mono (by omega) (ih h.2)
    · simp only [Memory.wfFrom, Bool.and_eq_true, decide_eq_true_eq]
      exact ⟨h.1, ih h.2⟩

theorem Memory.insert_wfFrom {lo a : Nat} {v : Byte} {m : Memory} (hm : m.wfFrom lo = true) (hlo : lo ≤ a)
    (ha : a < 65536) (hv : v ≠ 0) (hne : ∀ e ∈ m, e.1 ≠ a) : (m.insert a v).wfFrom lo = true := by
  induction m generalizing lo with
  | nil =>
    simp only [Memory.insert, Memory.wfFrom, Bool.and_eq_true, decide_eq_true_eq]
    exact ⟨⟨⟨hlo, ha⟩, hv⟩, trivial⟩
  | cons e rest ih =>
    obtain ⟨k, w⟩ := e
    have hk : k ≠ a := hne (k, w) (by simp)
    simp only [Memory.wfFrom, Bool.and_eq_true, decide_eq_true_eq] at hm
    simp only [Memory.insert]
    split
    · simp only [Memory.wfFrom, Bool.and_eq_true, decide_eq_true_eq]
      exact ⟨⟨⟨hlo, ha⟩, hv⟩, ⟨⟨by omega, hm.1.1.2⟩, hm.1.2⟩, hm.2⟩
    · simp only [Memory.wfFrom, Bool.and_eq_true, decide_eq_true_eq]
      exact ⟨hm.1, ih hm.2 (by omega) (fun e he => hne e (by simp [he]))⟩

/-- A write keeps the canonical form. -/
theorem Memory.write_wf {m : Memory} {a : Nat} {v : Byte} (hm : m.wf = true) (ha : a < 65536) :
    (m.write a v).wf = true := by
  unfold Memory.write
  split
  · exact Memory.erase_wfFrom a hm
  · rename_i hv
    exact Memory.insert_wfFrom (Memory.erase_wfFrom a hm) (by omega) ha hv
      (fun e he => Memory.fst_ne_of_mem_erase he)

/-- A load from outside keeps the canonical form. -/
theorem Memory.load_wf {m : Memory} {a : Word} {bs : List Byte} (hm : m.wf = true) : (m.load a bs).wf = true := by
  induction bs generalizing m a with
  | nil => exact hm
  | cons b bs ih => exact ih (Memory.write_wf hm a.isLt)

/-- Memory reset keeps the canonical form. -/
@[simp] theorem Memory.wf_nil : Memory.wf [] = true := rfl

theorem Memory.read_eq_zero_of_lt {lo a : Nat} {m : Memory} (hm : m.wfFrom lo = true) (h : a < lo) :
    m.read a = 0 := by
  induction m generalizing lo with
  | nil => rfl
  | cons e rest ih =>
    obtain ⟨k, v⟩ := e
    simp only [Memory.wfFrom, Bool.and_eq_true, decide_eq_true_eq] at hm
    rw [Memory.read_cons, if_neg (by omega)]
    exact ih hm.2 (by omega)

/-- Two memories in canonical form that read alike are equal. -/
theorem Memory.ext_of_wf {m n : Memory} (hm : m.wf = true) (hn : n.wf = true) (h : ∀ a, m.read a = n.read a) :
    m = n := by
  suffices ∀ lo lo', m.wfFrom lo = true → n.wfFrom lo' = true → m = n from this 0 0 hm hn
  clear hm hn
  intro lo lo' hm hn
  induction m generalizing n lo lo' with
  | nil =>
    cases n with
    | nil => rfl
    | cons e rest =>
      obtain ⟨k, v⟩ := e
      simp only [Memory.wfFrom, Bool.and_eq_true, decide_eq_true_eq] at hn
      have := h k
      rw [Memory.read_cons, if_pos rfl] at this
      exact absurd this.symm hn.1.2
  | cons e rest ih =>
    obtain ⟨k, v⟩ := e
    have hm' := hm
    simp only [Memory.wfFrom, Bool.and_eq_true, decide_eq_true_eq] at hm
    cases n with
    | nil =>
      have := h k
      rw [Memory.read_cons, if_pos rfl] at this
      exact absurd this hm.1.2
    | cons e' rest' =>
      obtain ⟨k', v'⟩ := e'
      have hn' := hn
      simp only [Memory.wfFrom, Bool.and_eq_true, decide_eq_true_eq] at hn
      have hk : k = k' := by
        rcases Nat.lt_trichotomy k k' with hlt | heq | hlt
        · have := h k
          rw [Memory.read_cons, if_pos rfl, Memory.read_cons, if_neg (by omega),
            Memory.read_eq_zero_of_lt hn.2 (by omega)] at this
          exact absurd this hm.1.2
        · exact heq
        · have := h k'
          rw [Memory.read_cons, if_neg (by omega), Memory.read_eq_zero_of_lt hm.2 (by omega),
            Memory.read_cons, if_pos rfl] at this
          exact absurd this.symm hn.1.2
      subst hk
      have hv : v = v' := by simpa [Memory.read_cons] using h k
      subst hv
      have : rest = rest' := by
        refine ih ?_ (k + 1) (k + 1) hm.2 hn.2
        intro a
        by_cases ha : k = a
        · subst ha
          rw [Memory.read_eq_zero_of_lt hm.2 (by omega), Memory.read_eq_zero_of_lt hn.2 (by omega)]
        · simpa [Memory.read_cons, ha] using h a
      rw [this]

/-! ## The state's view -/

theorem State.peek_eq_of_mem {s t : State} (h : t.mem = s.mem) (a : Word) : t.peek a = s.peek a := by
  simp [State.peek, h]

theorem toNat_inj16 (a b : Word) : a.toNat = b.toNat ↔ a = b := BitVec.toNat_inj

/-- A byte read after `poke`. -/
theorem State.peek_poke (s : State) (a b : Word) (v : Byte) :
    (s.poke a v).peek b = if b = a then v else s.peek b := by
  simp [State.poke, State.peek, Memory.read_write, BitVec.toNat_inj]

end Sys2Proof.Machine
end

