-- ==== Sys2Proof/Laws/Views.lean ====
section
/-! SUPPORT. The views of Safety.lean (registers, flags, control state, memory reads) after each update. -/

namespace Sys2Proof.Machine

variable (s : State)

@[simp] theorem State.setA_regs (v : Byte) : (s.setA v).regs = { s.regs with a := v } := rfl
@[simp] theorem State.setA_flags (v : Byte) : (s.setA v).flags = s.flags := rfl
@[simp] theorem State.setA_control (v : Byte) : (s.setA v).control = s.control := rfl
@[simp] theorem State.setA_peek (v : Byte) (b : Word) : (s.setA v).peek b = s.peek b := rfl

@[simp] theorem State.setX_regs (v : Byte) : (s.setX v).regs = { s.regs with x := v } := rfl
@[simp] theorem State.setX_flags (v : Byte) : (s.setX v).flags = s.flags := rfl
@[simp] theorem State.setX_control (v : Byte) : (s.setX v).control = s.control := rfl
@[simp] theorem State.setX_peek (v : Byte) (b : Word) : (s.setX v).peek b = s.peek b := rfl

@[simp] theorem State.setY_regs (v : Byte) : (s.setY v).regs = { s.regs with y := v } := rfl
@[simp] theorem State.setY_flags (v : Byte) : (s.setY v).flags = s.flags := rfl
@[simp] theorem State.setY_control (v : Byte) : (s.setY v).control = s.control := rfl
@[simp] theorem State.setY_peek (v : Byte) (b : Word) : (s.setY v).peek b = s.peek b := rfl

@[simp] theorem State.setSp_regs (v : Byte) : (s.setSp v).regs = { s.regs with sp := v } := rfl
@[simp] theorem State.setSp_flags (v : Byte) : (s.setSp v).flags = s.flags := rfl
@[simp] theorem State.setSp_control (v : Byte) : (s.setSp v).control = s.control := rfl
@[simp] theorem State.setSp_peek (v : Byte) (b : Word) : (s.setSp v).peek b = s.peek b := rfl

@[simp] theorem State.setP_regs (v : Byte) : (s.setP v).regs = s.regs := rfl
@[simp] theorem State.setP_control (v : Byte) : (s.setP v).control = s.control := rfl
@[simp] theorem State.setP_peek (v : Byte) (b : Word) : (s.setP v).peek b = s.peek b := rfl

@[simp] theorem State.setPc_regs (v : Word) : (s.setPc v).regs = { s.regs with pc := v } := rfl
@[simp] theorem State.setPc_flags (v : Word) : (s.setPc v).flags = s.flags := rfl
@[simp] theorem State.setPc_control (v : Word) : (s.setPc v).control = s.control := rfl
@[simp] theorem State.setPc_peek (v : Word) (b : Word) : (s.setPc v).peek b = s.peek b := rfl

@[simp] theorem State.setMem_regs (m : Memory) : (s.setMem m).regs = s.regs := rfl
@[simp] theorem State.setMem_flags (m : Memory) : (s.setMem m).flags = s.flags := rfl
@[simp] theorem State.setMem_control (m : Memory) : (s.setMem m).control = s.control := rfl

@[simp] theorem State.setRunState_regs (r : RunState) : (s.setRunState r).regs = s.regs := rfl
@[simp] theorem State.setRunState_flags (r : RunState) : (s.setRunState r).flags = s.flags := rfl
@[simp] theorem State.setRunState_control (r : RunState) : (s.setRunState r).control = { s.control with runState := r } := rfl
@[simp] theorem State.setRunState_peek (r : RunState) (b : Word) : (s.setRunState r).peek b = s.peek b := rfl

@[simp] theorem State.setResult_regs (r : StepResult) : (s.setResult r).regs = s.regs := rfl
@[simp] theorem State.setResult_flags (r : StepResult) : (s.setResult r).flags = s.flags := rfl
@[simp] theorem State.setResult_control (r : StepResult) : (s.setResult r).control = s.control := rfl
@[simp] theorem State.setResult_peek (r : StepResult) (b : Word) : (s.setResult r).peek b = s.peek b := rfl

@[simp] theorem State.setFault_regs (f : Option FaultRecord) : (s.setFault f).regs = s.regs := rfl
@[simp] theorem State.setFault_flags (f : Option FaultRecord) : (s.setFault f).flags = s.flags := rfl
@[simp] theorem State.setFault_control (f : Option FaultRecord) : (s.setFault f).control = { s.control with fault := f } := rfl
@[simp] theorem State.setFault_peek (f : Option FaultRecord) (b : Word) : (s.setFault f).peek b = s.peek b := rfl

@[simp] theorem State.setRefused_regs (r : Option RefusalRecord) : (s.setRefused r).regs = s.regs := rfl
@[simp] theorem State.setRefused_flags (r : Option RefusalRecord) : (s.setRefused r).flags = s.flags := rfl
@[simp] theorem State.setRefused_control (r : Option RefusalRecord) : (s.setRefused r).control = { s.control with refused := r } := rfl
@[simp] theorem State.setRefused_peek (r : Option RefusalRecord) (b : Word) : (s.setRefused r).peek b = s.peek b := rfl

@[simp] theorem State.addEvent_regs (e : Event) : (s.addEvent e).regs = s.regs := rfl
@[simp] theorem State.addEvent_flags (e : Event) : (s.addEvent e).flags = s.flags := rfl
@[simp] theorem State.addEvent_control (e : Event) : (s.addEvent e).control = s.control := rfl
@[simp] theorem State.addEvent_peek (e : Event) (b : Word) : (s.addEvent e).peek b = s.peek b := rfl

/-! ## Flag writes -/

theorem getLsbD_withMask (p mask : Byte) (v : Bool) (k : Nat) (hk : k < 8) :
    (withMask p mask v).getLsbD k = if mask.getLsbD k then v else p.getLsbD k := by
  simp only [withMask, apply_ite (fun b : Byte => b.getLsbD k), BitVec.getLsbD_or, BitVec.getLsbD_and,
    BitVec.getLsbD_not, hk, decide_true, Bool.true_and]
  cases v <;> cases mask.getLsbD k <;> simp

@[simp] theorem State.setC_flags (v : Bool) : (s.setC v).flags = { s.flags with c := v } := by
  simp (disch := decide) only [State.flags, State.flagN, State.flagV, State.flagU, State.flagB, State.flagD, State.flagI,
    State.flagZ, State.flagC, State.setC, State.setP_p, getLsbD_withMask]
  rfl
@[simp] theorem State.setC_regs (v : Bool) : (s.setC v).regs = s.regs := rfl
@[simp] theorem State.setC_control (v : Bool) : (s.setC v).control = s.control := rfl
@[simp] theorem State.setC_peek (v : Bool) (b : Word) : (s.setC v).peek b = s.peek b := rfl
@[simp] theorem State.setC_mem (v : Bool) : (s.setC v).mem = s.mem := rfl
@[simp] theorem State.setC_events (v : Bool) : (s.setC v).events = s.events := rfl
@[simp] theorem State.setC_lastResult (v : Bool) : (s.setC v).lastResult = s.lastResult := rfl

@[simp] theorem State.setZ_flags (v : Bool) : (s.setZ v).flags = { s.flags with z := v } := by
  simp (disch := decide) only [State.flags, State.flagN, State.flagV, State.flagU, State.flagB, State.flagD, State.flagI,
    State.flagZ, State.flagC, State.setZ, State.setP_p, getLsbD_withMask]
  rfl
@[simp] theorem State.setZ_regs (v : Bool) : (s.setZ v).regs = s.regs := rfl
@[simp] theorem State.setZ_control (v : Bool) : (s.setZ v).control = s.control := rfl
@[simp] theorem State.setZ_peek (v : Bool) (b : Word) : (s.setZ v).peek b = s.peek b := rfl
@[simp] theorem State.setZ_mem (v : Bool) : (s.setZ v).mem = s.mem := rfl
@[simp] theorem State.setZ_events (v : Bool) : (s.setZ v).events = s.events := rfl
@[simp] theorem State.setZ_lastResult (v : Bool) : (s.setZ v).lastResult = s.lastResult := rfl

@[simp] theorem State.setI_flags (v : Bool) : (s.setI v).flags = { s.flags with i := v } := by
  simp (disch := decide) only [State.flags, State.flagN, State.flagV, State.flagU, State.flagB, State.flagD, State.flagI,
    State.flagZ, State.flagC, State.setI, State.setP_p, getLsbD_withMask]
  rfl
@[simp] theorem State.setI_regs (v : Bool) : (s.setI v).regs = s.regs := rfl
@[simp] theorem State.setI_control (v : Bool) : (s.setI v).control = s.control := rfl
@[simp] theorem State.setI_peek (v : Bool) (b : Word) : (s.setI v).peek b = s.peek b := rfl
@[simp] theorem State.setI_mem (v : Bool) : (s.setI v).mem = s.mem := rfl
@[simp] theorem State.setI_events (v : Bool) : (s.setI v).events = s.events := rfl
@[simp] theorem State.setI_lastResult (v : Bool) : (s.setI v).lastResult = s.lastResult := rfl

@[simp] theorem State.setD_flags (v : Bool) : (s.setD v).flags = { s.flags with d := v } := by
  simp (disch := decide) only [State.flags, State.flagN, State.flagV, State.flagU, State.flagB, State.flagD, State.flagI,
    State.flagZ, State.flagC, State.setD, State.setP_p, getLsbD_withMask]
  rfl
@[simp] theorem State.setD_regs (v : Bool) : (s.setD v).regs = s.regs := rfl
@[simp] theorem State.setD_control (v : Bool) : (s.setD v).control = s.control := rfl
@[simp] theorem State.setD_peek (v : Bool) (b : Word) : (s.setD v).peek b = s.peek b := rfl
@[simp] theorem State.setD_mem (v : Bool) : (s.setD v).mem = s.mem := rfl
@[simp] theorem State.setD_events (v : Bool) : (s.setD v).events = s.events := rfl
@[simp] theorem State.setD_lastResult (v : Bool) : (s.setD v).lastResult = s.lastResult := rfl

@[simp] theorem State.setV_flags (v : Bool) : (s.setV v).flags = { s.flags with v := v } := by
  simp (disch := decide) only [State.flags, State.flagN, State.flagV, State.flagU, State.flagB, State.flagD, State.flagI,
    State.flagZ, State.flagC, State.setV, State.setP_p, getLsbD_withMask]
  rfl
@[simp] theorem State.setV_regs (v : Bool) : (s.setV v).regs = s.regs := rfl
@[simp] theorem State.setV_control (v : Bool) : (s.setV v).control = s.control := rfl
@[simp] theorem State.setV_peek (v : Bool) (b : Word) : (s.setV v).peek b = s.peek b := rfl
@[simp] theorem State.setV_mem (v : Bool) : (s.setV v).mem = s.mem := rfl
@[simp] theorem State.setV_events (v : Bool) : (s.setV v).events = s.events := rfl
@[simp] theorem State.setV_lastResult (v : Bool) : (s.setV v).lastResult = s.lastResult := rfl

@[simp] theorem State.setN_flags (v : Bool) : (s.setN v).flags = { s.flags with n := v } := by
  simp (disch := decide) only [State.flags, State.flagN, State.flagV, State.flagU, State.flagB, State.flagD, State.flagI,
    State.flagZ, State.flagC, State.setN, State.setP_p, getLsbD_withMask]
  rfl
@[simp] theorem State.setN_regs (v : Bool) : (s.setN v).regs = s.regs := rfl
@[simp] theorem State.setN_control (v : Bool) : (s.setN v).control = s.control := rfl
@[simp] theorem State.setN_peek (v : Bool) (b : Word) : (s.setN v).peek b = s.peek b := rfl
@[simp] theorem State.setN_mem (v : Bool) : (s.setN v).mem = s.mem := rfl
@[simp] theorem State.setN_events (v : Bool) : (s.setN v).events = s.events := rfl
@[simp] theorem State.setN_lastResult (v : Bool) : (s.setN v).lastResult = s.lastResult := rfl

@[simp] theorem State.setC_a (v : Bool) : (s.setC v).a = s.a := rfl
@[simp] theorem State.setC_x (v : Bool) : (s.setC v).x = s.x := rfl
@[simp] theorem State.setC_y (v : Bool) : (s.setC v).y = s.y := rfl
@[simp] theorem State.setC_sp (v : Bool) : (s.setC v).sp = s.sp := rfl
@[simp] theorem State.setC_pc (v : Bool) : (s.setC v).pc = s.pc := rfl
@[simp] theorem State.setC_params (v : Bool) : (s.setC v).params = s.params := rfl
@[simp] theorem State.setZ_a (v : Bool) : (s.setZ v).a = s.a := rfl
@[simp] theorem State.setZ_x (v : Bool) : (s.setZ v).x = s.x := rfl
@[simp] theorem State.setZ_y (v : Bool) : (s.setZ v).y = s.y := rfl
@[simp] theorem State.setZ_sp (v : Bool) : (s.setZ v).sp = s.sp := rfl
@[simp] theorem State.setZ_pc (v : Bool) : (s.setZ v).pc = s.pc := rfl
@[simp] theorem State.setZ_params (v : Bool) : (s.setZ v).params = s.params := rfl
@[simp] theorem State.setI_a (v : Bool) : (s.setI v).a = s.a := rfl
@[simp] theorem State.setI_x (v : Bool) : (s.setI v).x = s.x := rfl
@[simp] theorem State.setI_y (v : Bool) : (s.setI v).y = s.y := rfl
@[simp] theorem State.setI_sp (v : Bool) : (s.setI v).sp = s.sp := rfl
@[simp] theorem State.setI_pc (v : Bool) : (s.setI v).pc = s.pc := rfl
@[simp] theorem State.setI_params (v : Bool) : (s.setI v).params = s.params := rfl
@[simp] theorem State.setD_a (v : Bool) : (s.setD v).a = s.a := rfl
@[simp] theorem State.setD_x (v : Bool) : (s.setD v).x = s.x := rfl
@[simp] theorem State.setD_y (v : Bool) : (s.setD v).y = s.y := rfl
@[simp] theorem State.setD_sp (v : Bool) : (s.setD v).sp = s.sp := rfl
@[simp] theorem State.setD_pc (v : Bool) : (s.setD v).pc = s.pc := rfl
@[simp] theorem State.setD_params (v : Bool) : (s.setD v).params = s.params := rfl
@[simp] theorem State.setV_a (v : Bool) : (s.setV v).a = s.a := rfl
@[simp] theorem State.setV_x (v : Bool) : (s.setV v).x = s.x := rfl
@[simp] theorem State.setV_y (v : Bool) : (s.setV v).y = s.y := rfl
@[simp] theorem State.setV_sp (v : Bool) : (s.setV v).sp = s.sp := rfl
@[simp] theorem State.setV_pc (v : Bool) : (s.setV v).pc = s.pc := rfl
@[simp] theorem State.setV_params (v : Bool) : (s.setV v).params = s.params := rfl
@[simp] theorem State.setN_a (v : Bool) : (s.setN v).a = s.a := rfl
@[simp] theorem State.setN_x (v : Bool) : (s.setN v).x = s.x := rfl
@[simp] theorem State.setN_y (v : Bool) : (s.setN v).y = s.y := rfl
@[simp] theorem State.setN_sp (v : Bool) : (s.setN v).sp = s.sp := rfl
@[simp] theorem State.setN_pc (v : Bool) : (s.setN v).pc = s.pc := rfl
@[simp] theorem State.setN_params (v : Bool) : (s.setN v).params = s.params := rfl
@[simp] theorem State.setNZ_a (v : Byte) : (s.setNZ v).a = s.a := rfl
@[simp] theorem State.setNZ_x (v : Byte) : (s.setNZ v).x = s.x := rfl
@[simp] theorem State.setNZ_y (v : Byte) : (s.setNZ v).y = s.y := rfl
@[simp] theorem State.setNZ_sp (v : Byte) : (s.setNZ v).sp = s.sp := rfl
@[simp] theorem State.setNZ_pc (v : Byte) : (s.setNZ v).pc = s.pc := rfl
@[simp] theorem State.setNZ_params (v : Byte) : (s.setNZ v).params = s.params := rfl
@[simp] theorem State.loadStatus_a (v : Byte) : (s.loadStatus v).a = s.a := rfl
@[simp] theorem State.loadStatus_x (v : Byte) : (s.loadStatus v).x = s.x := rfl
@[simp] theorem State.loadStatus_y (v : Byte) : (s.loadStatus v).y = s.y := rfl
@[simp] theorem State.loadStatus_sp (v : Byte) : (s.loadStatus v).sp = s.sp := rfl
@[simp] theorem State.loadStatus_pc (v : Byte) : (s.loadStatus v).pc = s.pc := rfl
@[simp] theorem State.loadStatus_params (v : Byte) : (s.loadStatus v).params = s.params := rfl

/-- `setNZ` writes N and Z and nothing else (00_scope.md R12). -/
@[simp] theorem State.setNZ_flags (r : Byte) :
    (s.setNZ r).flags = { s.flags with n := r.getLsbD 7, z := decide (r = 0) } := by
  simp only [State.setNZ, State.setN_flags, State.setZ_flags]
@[simp] theorem State.setNZ_regs (r : Byte) : (s.setNZ r).regs = s.regs := rfl
@[simp] theorem State.setNZ_control (r : Byte) : (s.setNZ r).control = s.control := rfl
@[simp] theorem State.setNZ_peek (r : Byte) (b : Word) : (s.setNZ r).peek b = s.peek b := rfl
@[simp] theorem State.setNZ_mem (r : Byte) : (s.setNZ r).mem = s.mem := rfl
@[simp] theorem State.setNZ_events (r : Byte) : (s.setNZ r).events = s.events := rfl

/-- A whole write of P: the pulled bits, U = 1, B = 0 (10_state.md R26, R27). -/
@[simp] theorem State.loadStatus_flags (v : Byte) :
    (s.loadStatus v).flags =
      ⟨v.getLsbD 7, v.getLsbD 6, true, false, v.getLsbD 3, v.getLsbD 2, v.getLsbD 1, v.getLsbD 0⟩ := by
  simp [State.flags, State.flagN, State.flagV, State.flagU, State.flagB, State.flagD, State.flagI, State.flagZ,
    State.flagC, State.loadStatus]
@[simp] theorem State.loadStatus_regs (v : Byte) : (s.loadStatus v).regs = s.regs := rfl
@[simp] theorem State.loadStatus_control (v : Byte) : (s.loadStatus v).control = s.control := rfl
@[simp] theorem State.loadStatus_peek (v : Byte) (b : Word) : (s.loadStatus v).peek b = s.peek b := rfl
@[simp] theorem State.loadStatus_mem (v : Byte) : (s.loadStatus v).mem = s.mem := rfl
@[simp] theorem State.loadStatus_events (v : Byte) : (s.loadStatus v).events = s.events := rfl

/-! ## Equal views -/

/-- Equal flags mean an equal status byte. -/
theorem State.p_eq_of_flags {s t : State} (h : t.flags = s.flags) : t.p = s.p := by
  simp only [State.flags, Flags.mk.injEq, State.flagN, State.flagV, State.flagU, State.flagB, State.flagD,
    State.flagI, State.flagZ, State.flagC] at h
  obtain ⟨h7, h6, h5, h4, h3, h2, h1, h0⟩ := h
  apply BitVec.eq_of_getLsbD_eq
  intro k hk
  match k, hk with
  | 0, _ => exact h0
  | 1, _ => exact h1
  | 2, _ => exact h2
  | 3, _ => exact h3
  | 4, _ => exact h4
  | 5, _ => exact h5
  | 6, _ => exact h6
  | 7, _ => exact h7

end Sys2Proof.Machine
end

