-- ==== Sys2Proof/Laws/Ops.lean ====
section
/-! SUPPORT. What each shared operation of Machine/Ops.lean does, by view: registers, flags, control state, memory reads,
events, and that it keeps memory's canonical form. -/

namespace Sys2Proof.Machine

variable (s : State)

/-! ## emit and the stack warning -/

@[simp] theorem State.emit_regs (n : EngineNote) : (s.emit n).regs = s.regs := rfl
@[simp] theorem State.emit_flags (n : EngineNote) : (s.emit n).flags = s.flags := rfl
@[simp] theorem State.emit_control (n : EngineNote) : (s.emit n).control = s.control := rfl
@[simp] theorem State.emit_peek (n : EngineNote) (b : Word) : (s.emit n).peek b = s.peek b := rfl
@[simp] theorem State.emit_a (n : EngineNote) : (s.emit n).a = s.a := rfl
@[simp] theorem State.emit_x (n : EngineNote) : (s.emit n).x = s.x := rfl
@[simp] theorem State.emit_y (n : EngineNote) : (s.emit n).y = s.y := rfl
@[simp] theorem State.emit_sp (n : EngineNote) : (s.emit n).sp = s.sp := rfl
@[simp] theorem State.emit_pc (n : EngineNote) : (s.emit n).pc = s.pc := rfl
@[simp] theorem State.emit_p (n : EngineNote) : (s.emit n).p = s.p := rfl
@[simp] theorem State.emit_params (n : EngineNote) : (s.emit n).params = s.params := rfl
@[simp] theorem State.emit_runState (n : EngineNote) : (s.emit n).runState = s.runState := rfl
@[simp] theorem State.emit_mem (n : EngineNote) : (s.emit n).mem = s.mem := rfl
@[simp] theorem State.emit_lastResult (n : EngineNote) : (s.emit n).lastResult = s.lastResult := rfl
theorem State.emit_events (n : EngineNote) :
    (s.emit n).events = s.events ++ [.engine n s.snapshot (Config.messageText s.events.length)] := rfl

/-! ## poke -/

@[simp] theorem State.poke_regs (a : Word) (v : Byte) : (s.poke a v).regs = s.regs := rfl
@[simp] theorem State.poke_a (a : Word) (v : Byte) : (s.poke a v).a = s.a := rfl
@[simp] theorem State.poke_x (a : Word) (v : Byte) : (s.poke a v).x = s.x := rfl
@[simp] theorem State.poke_y (a : Word) (v : Byte) : (s.poke a v).y = s.y := rfl
@[simp] theorem State.poke_sp (a : Word) (v : Byte) : (s.poke a v).sp = s.sp := rfl
@[simp] theorem State.poke_pc (a : Word) (v : Byte) : (s.poke a v).pc = s.pc := rfl
@[simp] theorem State.poke_params (a : Word) (v : Byte) : (s.poke a v).params = s.params := rfl
@[simp] theorem State.poke_flags (a : Word) (v : Byte) : (s.poke a v).flags = s.flags := rfl
@[simp] theorem State.poke_control (a : Word) (v : Byte) : (s.poke a v).control = s.control := rfl
@[simp] theorem State.poke_lastResult (a : Word) (v : Byte) : (s.poke a v).lastResult = s.lastResult := rfl
@[simp] theorem State.poke_events (a : Word) (v : Byte) : (s.poke a v).events = s.events ++ [.changed a v] := rfl
theorem State.poke_wf (a : Word) (v : Byte) (h : s.mem.wf = true) : (s.poke a v).mem.wf = true :=
  Memory.write_wf h a.isLt

/-! ## push -/

@[simp] theorem warnIf_true (r : Snapshot) (text : String) :
    warnIf true r text = [.engine (.simulatorInfo (.stackOverflow r.pc r.sp)) r text] := rfl
@[simp] theorem warnIf_false (r : Snapshot) (text : String) : warnIf false r text = [] := rfl
@[simp] theorem warnIf_write (b : Bool) (r : Snapshot) (text : String) :
    (warnIf b r text).filterMap Event.write = [] := by cases b <;> rfl
@[simp] theorem changed_write (a : Word) (v : Byte) : (Event.changed a v).write = some (a, v) := rfl
@[simp] theorem engine_write (n : EngineNote) (r : Snapshot) (m : String) : (Event.engine n r m).write = none := rfl

@[simp] theorem State.push_regs (v : Byte) : (s.push v).regs = { s.regs with sp := s.sp - 1 } := by
  simp only [State.push]; split <;> simp [State.warnStack]
@[simp] theorem State.push_flags (v : Byte) : (s.push v).flags = s.flags := by
  simp only [State.push]; split <;> simp [State.warnStack]
@[simp] theorem State.push_control (v : Byte) : (s.push v).control = s.control := by
  simp only [State.push]; split <;> simp [State.warnStack]
@[simp] theorem State.push_lastResult (v : Byte) : (s.push v).lastResult = s.lastResult := by
  simp only [State.push]; split <;> simp [State.warnStack]
theorem State.push_peek (v : Byte) (b : Word) :
    (s.push v).peek b = if b = s.stackAddr then v else s.peek b := by
  rw [← State.peek_poke]; simp only [State.push]; split <;> rfl
theorem State.push_events (v : Byte) :
    (s.push v).events = s.events ++ .changed s.stackAddr v ::
      warnIf (decide (s.sp = 0)) s.snapshot (Config.messageText (s.events.length + 1)) := by
  have h : (s.poke s.stackAddr v).sp = s.sp := rfl
  simp only [State.push, h, warnIf, decide_eq_true_eq]
  split <;> simp [State.warnStack, State.emit_events]
  exact ⟨⟨rfl, rfl⟩, rfl⟩
theorem State.push_wf (v : Byte) (h : s.mem.wf = true) : (s.push v).mem.wf = true := by
  have := s.poke_wf s.stackAddr v h
  simp only [State.push]; split <;> exact this
@[simp] theorem State.push_sp (v : Byte) : (s.push v).sp = s.sp - 1 := congrArg Regs.sp (s.push_regs v)
@[simp] theorem State.push_pc (v : Byte) : (s.push v).pc = s.pc := congrArg Regs.pc (s.push_regs v)

/-! ## pull -/

@[simp] theorem State.pull_regs : s.pull.regs = { s.regs with sp := s.sp + 1 } := by
  simp only [State.pull]; split <;> simp [State.warnStack]
@[simp] theorem State.pull_flags : s.pull.flags = s.flags := by
  simp only [State.pull]; split <;> simp [State.warnStack]
@[simp] theorem State.pull_control : s.pull.control = s.control := by
  simp only [State.pull]; split <;> simp [State.warnStack]
@[simp] theorem State.pull_lastResult : s.pull.lastResult = s.lastResult := by
  simp only [State.pull]; split <;> simp [State.warnStack]
@[simp] theorem State.pull_peek (b : Word) : s.pull.peek b = s.peek b := by
  simp only [State.pull]; split <;> simp [State.warnStack]
@[simp] theorem State.pull_mem : s.pull.mem = s.mem := by
  simp only [State.pull]; split <;> simp [State.warnStack]
theorem State.pull_events :
    s.pull.events =
      s.events ++ warnIf (decide (s.sp = 0xFF)) s.snapshot (Config.messageText s.events.length) := by
  simp only [State.pull, warnIf, decide_eq_true_eq]
  split <;> simp [State.warnStack, State.emit_events]
  exact ⟨rfl, rfl⟩
@[simp] theorem State.pull_sp : s.pull.sp = s.sp + 1 := congrArg Regs.sp s.pull_regs
@[simp] theorem State.pull_pc : s.pull.pc = s.pc := congrArg Regs.pc s.pull_regs
theorem State.pulled_eq : s.pulled = s.peek (wordOf 0x01 (s.sp + 1)) := by
  simp [State.pulled, State.stackAddr]

/-! ## Outcomes -/

@[simp] theorem State.complete_regs (n : Nat) :
    (s.complete n).regs = { s.regs with pc := s.pc + BitVec.ofNat 16 n } := rfl
@[simp] theorem State.complete_flags (n : Nat) : (s.complete n).flags = s.flags := rfl
@[simp] theorem State.complete_control (n : Nat) : (s.complete n).control = s.control := rfl
@[simp] theorem State.complete_peek (n : Nat) (b : Word) : (s.complete n).peek b = s.peek b := rfl
@[simp] theorem State.complete_mem (n : Nat) : (s.complete n).mem = s.mem := rfl
@[simp] theorem State.complete_events (n : Nat) : (s.complete n).events = s.events := rfl
@[simp] theorem State.complete_lastResult (n : Nat) : (s.complete n).lastResult = .executed := rfl

@[simp] theorem State.jump_regs (w : Word) : (s.jump w).regs = { s.regs with pc := w } := rfl
@[simp] theorem State.jump_flags (w : Word) : (s.jump w).flags = s.flags := rfl
@[simp] theorem State.jump_control (w : Word) : (s.jump w).control = s.control := rfl
@[simp] theorem State.jump_peek (w : Word) (b : Word) : (s.jump w).peek b = s.peek b := rfl
@[simp] theorem State.jump_mem (w : Word) : (s.jump w).mem = s.mem := rfl
@[simp] theorem State.jump_events (w : Word) : (s.jump w).events = s.events := rfl
@[simp] theorem State.jump_lastResult (w : Word) : (s.jump w).lastResult = .executed := rfl

@[simp] theorem State.halt_regs (e : Bool) : (s.halt e).regs = s.regs := rfl
@[simp] theorem State.halt_flags (e : Bool) : (s.halt e).flags = s.flags := rfl
@[simp] theorem State.halt_control (e : Bool) :
    (s.halt e).control = { s.control with runState := .completed } := rfl
@[simp] theorem State.halt_peek (e : Bool) (b : Word) : (s.halt e).peek b = s.peek b := rfl
@[simp] theorem State.halt_mem (e : Bool) : (s.halt e).mem = s.mem := rfl
theorem State.halt_events (e : Bool) :
    (s.halt e).events =
      s.events ++ [.engine (.simulatorInfo .halt) s.snapshot (Config.messageText s.events.length)] := rfl
@[simp] theorem State.halt_lastResult (e : Bool) : (s.halt e).lastResult = .halted e := rfl

@[simp] theorem State.refuse_regs (r : RefusalReason) : (s.refuse r).regs = s.regs := rfl
@[simp] theorem State.refuse_flags (r : RefusalReason) : (s.refuse r).flags = s.flags := rfl
@[simp] theorem State.refuse_control (r : RefusalReason) :
    (s.refuse r).control = { s.control with refused := some ⟨r, s.pc⟩ } := rfl
@[simp] theorem State.refuse_mem (r : RefusalReason) : (s.refuse r).mem = s.mem := rfl
@[simp] theorem State.refuse_events (r : RefusalReason) : (s.refuse r).events = s.events := rfl
@[simp] theorem State.refuse_lastResult (r : RefusalReason) : (s.refuse r).lastResult = .refused r := rfl

@[simp] theorem State.raise_regs (k : FaultKind) (b : Byte) : (s.raise k b).regs = s.regs := rfl
@[simp] theorem State.raise_flags (k : FaultKind) (b : Byte) : (s.raise k b).flags = s.flags := rfl
@[simp] theorem State.raise_control (k : FaultKind) (b : Byte) :
    (s.raise k b).control = { s.control with fault := some ⟨k, s.pc, b⟩, runState := .stopped } := rfl
@[simp] theorem State.raise_mem (k : FaultKind) (b : Byte) : (s.raise k b).mem = s.mem := rfl
theorem State.raise_events (k : FaultKind) (b : Byte) :
    (s.raise k b).events =
      s.events ++ [.engine (.simulatorFailure ⟨k, s.pc, b⟩) s.snapshot (Config.messageText s.events.length)] := rfl
@[simp] theorem State.raise_lastResult (k : FaultKind) (b : Byte) : (s.raise k b).lastResult = .faulted k := rfl

/-! ## Outcomes, field by field -/

@[simp] theorem State.complete_a (n : Nat) : (s.complete n).a = s.a := rfl
@[simp] theorem State.complete_x (n : Nat) : (s.complete n).x = s.x := rfl
@[simp] theorem State.complete_y (n : Nat) : (s.complete n).y = s.y := rfl
@[simp] theorem State.complete_sp (n : Nat) : (s.complete n).sp = s.sp := rfl
@[simp] theorem State.complete_pc (n : Nat) : (s.complete n).pc = s.pc + BitVec.ofNat 16 n := rfl
@[simp] theorem State.complete_p (n : Nat) : (s.complete n).p = s.p := rfl
@[simp] theorem State.complete_params (n : Nat) : (s.complete n).params = s.params := rfl
@[simp] theorem State.complete_runState (n : Nat) : (s.complete n).runState = s.runState := rfl
@[simp] theorem State.complete_fault (n : Nat) : (s.complete n).fault = s.fault := rfl
@[simp] theorem State.complete_refused (n : Nat) : (s.complete n).refused = s.refused := rfl
@[simp] theorem State.complete_symbols (n : Nat) : (s.complete n).symbols = s.symbols := rfl
@[simp] theorem State.complete_codeStart (n : Nat) : (s.complete n).codeStart = s.codeStart := rfl
@[simp] theorem State.complete_codeLen (n : Nat) : (s.complete n).codeLen = s.codeLen := rfl
@[simp] theorem State.complete_codeValid (n : Nat) : (s.complete n).codeValid = s.codeValid := rfl
@[simp] theorem State.complete_breakLatch (n : Nat) : (s.complete n).breakLatch = s.breakLatch := rfl
@[simp] theorem State.complete_breakpointHit (n : Nat) : (s.complete n).breakpointHit = s.breakpointHit := rfl
@[simp] theorem State.complete_debuggerEnabled (n : Nat) : (s.complete n).debuggerEnabled = s.debuggerEnabled := rfl
@[simp] theorem State.complete_stopRequested (n : Nat) : (s.complete n).stopRequested = s.stopRequested := rfl

@[simp] theorem State.jump_a (w : Word) : (s.jump w).a = s.a := rfl
@[simp] theorem State.jump_x (w : Word) : (s.jump w).x = s.x := rfl
@[simp] theorem State.jump_y (w : Word) : (s.jump w).y = s.y := rfl
@[simp] theorem State.jump_sp (w : Word) : (s.jump w).sp = s.sp := rfl
@[simp] theorem State.jump_pc (w : Word) : (s.jump w).pc = w := rfl
@[simp] theorem State.jump_p (w : Word) : (s.jump w).p = s.p := rfl
@[simp] theorem State.jump_params (w : Word) : (s.jump w).params = s.params := rfl
@[simp] theorem State.jump_runState (w : Word) : (s.jump w).runState = s.runState := rfl
@[simp] theorem State.jump_fault (w : Word) : (s.jump w).fault = s.fault := rfl
@[simp] theorem State.jump_refused (w : Word) : (s.jump w).refused = s.refused := rfl
@[simp] theorem State.jump_symbols (w : Word) : (s.jump w).symbols = s.symbols := rfl
@[simp] theorem State.jump_codeStart (w : Word) : (s.jump w).codeStart = s.codeStart := rfl
@[simp] theorem State.jump_codeLen (w : Word) : (s.jump w).codeLen = s.codeLen := rfl
@[simp] theorem State.jump_codeValid (w : Word) : (s.jump w).codeValid = s.codeValid := rfl
@[simp] theorem State.jump_breakLatch (w : Word) : (s.jump w).breakLatch = s.breakLatch := rfl
@[simp] theorem State.jump_breakpointHit (w : Word) : (s.jump w).breakpointHit = s.breakpointHit := rfl
@[simp] theorem State.jump_debuggerEnabled (w : Word) : (s.jump w).debuggerEnabled = s.debuggerEnabled := rfl
@[simp] theorem State.jump_stopRequested (w : Word) : (s.jump w).stopRequested = s.stopRequested := rfl

@[simp] theorem State.halt_a (e : Bool) : (s.halt e).a = s.a := rfl
@[simp] theorem State.halt_x (e : Bool) : (s.halt e).x = s.x := rfl
@[simp] theorem State.halt_y (e : Bool) : (s.halt e).y = s.y := rfl
@[simp] theorem State.halt_sp (e : Bool) : (s.halt e).sp = s.sp := rfl
@[simp] theorem State.halt_pc (e : Bool) : (s.halt e).pc = s.pc := rfl
@[simp] theorem State.halt_p (e : Bool) : (s.halt e).p = s.p := rfl
@[simp] theorem State.halt_params (e : Bool) : (s.halt e).params = s.params := rfl
@[simp] theorem State.halt_runState (e : Bool) : (s.halt e).runState = .completed := rfl
@[simp] theorem State.halt_fault (e : Bool) : (s.halt e).fault = s.fault := rfl
@[simp] theorem State.halt_refused (e : Bool) : (s.halt e).refused = s.refused := rfl
@[simp] theorem State.halt_symbols (e : Bool) : (s.halt e).symbols = s.symbols := rfl
@[simp] theorem State.halt_codeStart (e : Bool) : (s.halt e).codeStart = s.codeStart := rfl
@[simp] theorem State.halt_codeLen (e : Bool) : (s.halt e).codeLen = s.codeLen := rfl
@[simp] theorem State.halt_codeValid (e : Bool) : (s.halt e).codeValid = s.codeValid := rfl
@[simp] theorem State.halt_breakLatch (e : Bool) : (s.halt e).breakLatch = s.breakLatch := rfl
@[simp] theorem State.halt_breakpointHit (e : Bool) : (s.halt e).breakpointHit = s.breakpointHit := rfl
@[simp] theorem State.halt_debuggerEnabled (e : Bool) : (s.halt e).debuggerEnabled = s.debuggerEnabled := rfl
@[simp] theorem State.halt_stopRequested (e : Bool) : (s.halt e).stopRequested = s.stopRequested := rfl

@[simp] theorem State.refuse_a (r : RefusalReason) : (s.refuse r).a = s.a := rfl
@[simp] theorem State.refuse_x (r : RefusalReason) : (s.refuse r).x = s.x := rfl
@[simp] theorem State.refuse_y (r : RefusalReason) : (s.refuse r).y = s.y := rfl
@[simp] theorem State.refuse_sp (r : RefusalReason) : (s.refuse r).sp = s.sp := rfl
@[simp] theorem State.refuse_pc (r : RefusalReason) : (s.refuse r).pc = s.pc := rfl
@[simp] theorem State.refuse_p (r : RefusalReason) : (s.refuse r).p = s.p := rfl
@[simp] theorem State.refuse_params (r : RefusalReason) : (s.refuse r).params = s.params := rfl
@[simp] theorem State.refuse_runState (r : RefusalReason) : (s.refuse r).runState = s.runState := rfl
@[simp] theorem State.refuse_fault (r : RefusalReason) : (s.refuse r).fault = s.fault := rfl
@[simp] theorem State.refuse_refused (r : RefusalReason) : (s.refuse r).refused = some ⟨r, s.pc⟩ := rfl
@[simp] theorem State.refuse_symbols (r : RefusalReason) : (s.refuse r).symbols = s.symbols := rfl
@[simp] theorem State.refuse_codeStart (r : RefusalReason) : (s.refuse r).codeStart = s.codeStart := rfl
@[simp] theorem State.refuse_codeLen (r : RefusalReason) : (s.refuse r).codeLen = s.codeLen := rfl
@[simp] theorem State.refuse_codeValid (r : RefusalReason) : (s.refuse r).codeValid = s.codeValid := rfl
@[simp] theorem State.refuse_breakLatch (r : RefusalReason) : (s.refuse r).breakLatch = s.breakLatch := rfl
@[simp] theorem State.refuse_breakpointHit (r : RefusalReason) : (s.refuse r).breakpointHit = s.breakpointHit := rfl
@[simp] theorem State.refuse_debuggerEnabled (r : RefusalReason) : (s.refuse r).debuggerEnabled = s.debuggerEnabled := rfl
@[simp] theorem State.refuse_stopRequested (r : RefusalReason) : (s.refuse r).stopRequested = s.stopRequested := rfl

@[simp] theorem State.raise_a (k : FaultKind) (b : Byte) : (s.raise k b).a = s.a := rfl
@[simp] theorem State.raise_x (k : FaultKind) (b : Byte) : (s.raise k b).x = s.x := rfl
@[simp] theorem State.raise_y (k : FaultKind) (b : Byte) : (s.raise k b).y = s.y := rfl
@[simp] theorem State.raise_sp (k : FaultKind) (b : Byte) : (s.raise k b).sp = s.sp := rfl
@[simp] theorem State.raise_pc (k : FaultKind) (b : Byte) : (s.raise k b).pc = s.pc := rfl
@[simp] theorem State.raise_p (k : FaultKind) (b : Byte) : (s.raise k b).p = s.p := rfl
@[simp] theorem State.raise_params (k : FaultKind) (b : Byte) : (s.raise k b).params = s.params := rfl
@[simp] theorem State.raise_runState (k : FaultKind) (b : Byte) : (s.raise k b).runState = .stopped := rfl
@[simp] theorem State.raise_fault (k : FaultKind) (b : Byte) : (s.raise k b).fault = some ⟨k, s.pc, b⟩ := rfl
@[simp] theorem State.raise_refused (k : FaultKind) (b : Byte) : (s.raise k b).refused = s.refused := rfl
@[simp] theorem State.raise_symbols (k : FaultKind) (b : Byte) : (s.raise k b).symbols = s.symbols := rfl
@[simp] theorem State.raise_codeStart (k : FaultKind) (b : Byte) : (s.raise k b).codeStart = s.codeStart := rfl
@[simp] theorem State.raise_codeLen (k : FaultKind) (b : Byte) : (s.raise k b).codeLen = s.codeLen := rfl
@[simp] theorem State.raise_codeValid (k : FaultKind) (b : Byte) : (s.raise k b).codeValid = s.codeValid := rfl
@[simp] theorem State.raise_breakLatch (k : FaultKind) (b : Byte) : (s.raise k b).breakLatch = s.breakLatch := rfl
@[simp] theorem State.raise_breakpointHit (k : FaultKind) (b : Byte) : (s.raise k b).breakpointHit = s.breakpointHit := rfl
@[simp] theorem State.raise_debuggerEnabled (k : FaultKind) (b : Byte) : (s.raise k b).debuggerEnabled = s.debuggerEnabled := rfl
@[simp] theorem State.raise_stopRequested (k : FaultKind) (b : Byte) : (s.raise k b).stopRequested = s.stopRequested := rfl

@[simp] theorem State.noStep_a : (s.noStep).a = s.a := rfl
@[simp] theorem State.noStep_x : (s.noStep).x = s.x := rfl
@[simp] theorem State.noStep_y : (s.noStep).y = s.y := rfl
@[simp] theorem State.noStep_sp : (s.noStep).sp = s.sp := rfl
@[simp] theorem State.noStep_pc : (s.noStep).pc = s.pc := rfl
@[simp] theorem State.noStep_p : (s.noStep).p = s.p := rfl
@[simp] theorem State.noStep_params : (s.noStep).params = s.params := rfl
@[simp] theorem State.noStep_runState : (s.noStep).runState = s.runState := rfl
@[simp] theorem State.noStep_fault : (s.noStep).fault = s.fault := rfl
@[simp] theorem State.noStep_refused : (s.noStep).refused = s.refused := rfl
@[simp] theorem State.noStep_symbols : (s.noStep).symbols = s.symbols := rfl
@[simp] theorem State.noStep_codeStart : (s.noStep).codeStart = s.codeStart := rfl
@[simp] theorem State.noStep_codeLen : (s.noStep).codeLen = s.codeLen := rfl
@[simp] theorem State.noStep_codeValid : (s.noStep).codeValid = s.codeValid := rfl
@[simp] theorem State.noStep_breakLatch : (s.noStep).breakLatch = s.breakLatch := rfl
@[simp] theorem State.noStep_breakpointHit : (s.noStep).breakpointHit = s.breakpointHit := rfl
@[simp] theorem State.noStep_debuggerEnabled : (s.noStep).debuggerEnabled = s.debuggerEnabled := rfl
@[simp] theorem State.noStep_stopRequested : (s.noStep).stopRequested = s.stopRequested := rfl
@[simp] theorem State.noStep_lastResult : (s.noStep).lastResult = .noStep := rfl
@[simp] theorem State.noStep_mem : (s.noStep).mem = s.mem := rfl

@[simp] theorem State.noStep_regs : s.noStep.regs = s.regs := rfl
@[simp] theorem State.noStep_flags : s.noStep.flags = s.flags := rfl
@[simp] theorem State.noStep_control : s.noStep.control = s.control := rfl
@[simp] theorem State.noStep_peek (b : Word) : s.noStep.peek b = s.peek b := rfl
@[simp] theorem State.noStep_events : s.noStep.events = s.events := rfl

/-! ## push and pull, field by field -/

@[simp] theorem State.push_a (v : Byte) : (s.push v).a = s.a := congrArg Regs.a (s.push_regs v)
@[simp] theorem State.pull_a : s.pull.a = s.a := congrArg Regs.a s.pull_regs
@[simp] theorem State.push_x (v : Byte) : (s.push v).x = s.x := congrArg Regs.x (s.push_regs v)
@[simp] theorem State.pull_x : s.pull.x = s.x := congrArg Regs.x s.pull_regs
@[simp] theorem State.push_y (v : Byte) : (s.push v).y = s.y := congrArg Regs.y (s.push_regs v)
@[simp] theorem State.pull_y : s.pull.y = s.y := congrArg Regs.y s.pull_regs
@[simp] theorem State.push_p (v : Byte) : (s.push v).p = s.p := by
  simp only [State.push]; split <;> rfl
@[simp] theorem State.pull_p : s.pull.p = s.p := by
  simp only [State.pull]; split <;> rfl
@[simp] theorem State.push_runState (v : Byte) : (s.push v).runState = s.runState :=
  congrArg Control.runState (s.push_control v)
@[simp] theorem State.pull_runState : s.pull.runState = s.runState := congrArg Control.runState s.pull_control
@[simp] theorem State.push_params (v : Byte) : (s.push v).params = s.params :=
  congrArg Control.params (s.push_control v)
@[simp] theorem State.pull_params : s.pull.params = s.params := congrArg Control.params s.pull_control

/-! ## Writes in order -/

@[simp] theorem afterWrites_nil (a : Word) : afterWrites s [] a = s.peek a := rfl

theorem afterWrites_one (w a : Word) (v : Byte) :
    afterWrites s [(w, v)] a = if a = w then v else s.peek a := by
  by_cases h : a = w
  · simp [afterWrites, h]
  · have : ¬w = a := fun e => h e.symm
    simp [afterWrites, h, this]

theorem afterWrites_two (w₁ w₂ a : Word) (v₁ v₂ : Byte) :
    afterWrites s [(w₁, v₁), (w₂, v₂)] a = if a = w₂ then v₂ else if a = w₁ then v₁ else s.peek a := by
  by_cases h : a = w₂
  · simp [afterWrites, h]
  · have h' : ¬w₂ = a := fun e => h e.symm
    by_cases h₁ : a = w₁
    · subst h₁; simp [afterWrites, h, h']
    · have h₁' : ¬w₁ = a := fun e => h₁ e.symm
      simp [afterWrites, h, h', h₁, h₁']

end Sys2Proof.Machine
end

