-- ==== Sys2Proof/Laws/Meanings.lean ====
section
/-! SUPPORT. One lemma for each meaning that instructions share: everything it can answer. A proof about an instruction
cites the lemma and does not unfold the meaning. -/

namespace Sys2Proof.Machine

variable (s : State)

/-- What completing without a write leaves, in one place. -/
theorem answers_quiet {r : Result} {t : State} {regs : Regs} {flags : Flags} (h : r = .next t)
    (hr : t.regs = regs) (hf : t.flags = flags) (hc : t.control = s.control) (hl : t.lastResult = .executed)
    (hm : t.mem = s.mem) (he : t.events = s.events) : Answers r s regs flags [] :=
  ⟨t, h, hr, hf, hc, hl, fun a => State.peek_eq_of_mem hm a, by simp [he]⟩

theorem loadA_answers (src : Source) :
    Answers (loadA src s) s { s.regs with a := src.value s, pc := s.pc + BitVec.ofNat 16 src.length }
      { s.flags with n := (src.value s).getLsbD 7, z := decide (src.value s = 0) } [] :=
  answers_quiet s rfl (by simp) (by simp) (by simp) (by simp) (by simp) (by simp)

theorem loadX_answers (src : Source) :
    Answers (loadX src s) s { s.regs with x := src.value s, pc := s.pc + BitVec.ofNat 16 src.length }
      { s.flags with n := (src.value s).getLsbD 7, z := decide (src.value s = 0) } [] :=
  answers_quiet s rfl (by simp) (by simp) (by simp) (by simp) (by simp) (by simp)

theorem loadY_answers (src : Source) :
    Answers (loadY src s) s { s.regs with y := src.value s, pc := s.pc + BitVec.ofNat 16 src.length }
      { s.flags with n := (src.value s).getLsbD 7, z := decide (src.value s = 0) } [] :=
  answers_quiet s rfl (by simp) (by simp) (by simp) (by simp) (by simp) (by simp)

theorem store_answers (v : Byte) (m : MemMode) :
    Answers (store v m s) s { s.regs with pc := s.pc + BitVec.ofNat 16 m.length } s.flags [(m.ea s, v)] :=
  ⟨_, rfl, by simp, by simp, by simp, by simp,
    fun a => by rw [afterWrites_one, State.complete_peek, State.peek_poke], by simp⟩

theorem transferA_answers (v : Byte) :
    Answers (transferA v s) s { s.regs with a := v, pc := s.pc + 1 }
      { s.flags with n := v.getLsbD 7, z := decide (v = 0) } [] :=
  answers_quiet s rfl (by simp) (by simp) (by simp) (by simp) (by simp) (by simp)

theorem transferX_answers (v : Byte) :
    Answers (transferX v s) s { s.regs with x := v, pc := s.pc + 1 }
      { s.flags with n := v.getLsbD 7, z := decide (v = 0) } [] :=
  answers_quiet s rfl (by simp) (by simp) (by simp) (by simp) (by simp) (by simp)

theorem transferY_answers (v : Byte) :
    Answers (transferY v s) s { s.regs with y := v, pc := s.pc + 1 }
      { s.flags with n := v.getLsbD 7, z := decide (v = 0) } [] :=
  answers_quiet s rfl (by simp) (by simp) (by simp) (by simp) (by simp) (by simp)

/-- What `storeSum` writes, by view. -/
@[simp] theorem State.storeSum_regs (o : AddOut) : (s.storeSum o).regs = { s.regs with a := o.result } := by
  simp [State.storeSum]
@[simp] theorem State.storeSum_pc (o : AddOut) : (s.storeSum o).pc = s.pc := by simp [State.storeSum]
@[simp] theorem State.storeSum_flags (o : AddOut) :
    (s.storeSum o).flags =
      { s.flags with n := o.result.getLsbD 7, v := o.overflow, z := decide (o.result = 0), c := o.carry } := by
  simp [State.storeSum]
@[simp] theorem State.storeSum_control (o : AddOut) : (s.storeSum o).control = s.control := by simp [State.storeSum]
@[simp] theorem State.storeSum_mem (o : AddOut) : (s.storeSum o).mem = s.mem := by simp [State.storeSum]
@[simp] theorem State.storeSum_events (o : AddOut) : (s.storeSum o).events = s.events := by simp [State.storeSum]

theorem addWithCarry_refuses (src : Source) (h : s.flagD = true) :
    addWithCarry src s = .next (s.refuse .decimalMode) := if_pos h

theorem subWithCarry_refuses (src : Source) (h : s.flagD = true) :
    subWithCarry src s = .next (s.refuse .decimalMode) := if_pos h

theorem addWithCarry_answers (src : Source) (h : s.flagD = false) :
    let o := addC s.a (src.value s) s.flagC
    Answers (addWithCarry src s) s { s.regs with a := o.result, pc := s.pc + BitVec.ofNat 16 src.length }
      { s.flags with n := o.result.getLsbD 7, v := o.overflow, z := decide (o.result = 0), c := o.carry } [] :=
  answers_quiet s (if_neg (by simp [h])) (by simp) (by simp) (by simp) (by simp) (by simp) (by simp)

theorem subWithCarry_answers (src : Source) (h : s.flagD = false) :
    let o := addC s.a (~~~(src.value s)) s.flagC
    Answers (subWithCarry src s) s { s.regs with a := o.result, pc := s.pc + BitVec.ofNat 16 src.length }
      { s.flags with n := o.result.getLsbD 7, v := o.overflow, z := decide (o.result = 0), c := o.carry } [] :=
  answers_quiet s (if_neg (by simp [h])) (by simp) (by simp) (by simp) (by simp) (by simp) (by simp)

theorem compareWith_answers (reg : Byte) (src : Source) :
    Answers (compareWith reg src s) s { s.regs with pc := s.pc + BitVec.ofNat 16 src.length }
      { s.flags with n := (reg - src.value s).getLsbD 7, z := decide (reg - src.value s = 0),
                     c := decide ((src.value s).toNat ≤ reg.toNat) } [] :=
  answers_quiet s rfl (by simp [State.compareFlags]) (by simp [State.compareFlags]) (by simp [State.compareFlags])
    (by simp) (by simp [State.compareFlags]) (by simp [State.compareFlags])

theorem modifyMem_answers (f : Byte → Byte) (m : MemMode) :
    Answers (modifyMem f m s) s { s.regs with pc := s.pc + BitVec.ofNat 16 m.length }
      { s.flags with n := (f (s.peek (m.ea s))).getLsbD 7, z := decide (f (s.peek (m.ea s)) = 0) }
      [(m.ea s, f (s.peek (m.ea s)))] :=
  ⟨_, rfl, by simp, by simp, by simp, by simp,
    fun a => by rw [afterWrites_one, State.complete_peek, State.setNZ_peek, State.peek_poke], by simp⟩

theorem logicResult_answers (r : Byte) (src : Source) :
    Answers (logicResult r src s) s { s.regs with a := r, pc := s.pc + BitVec.ofNat 16 src.length }
      { s.flags with n := r.getLsbD 7, z := decide (r = 0) } [] :=
  answers_quiet s rfl (by simp) (by simp) (by simp) (by simp) (by simp) (by simp)

theorem bitTest_answers (src : Source) :
    Answers (bitTest src s) s { s.regs with pc := s.pc + BitVec.ofNat 16 src.length }
      { s.flags with n := (src.value s).getLsbD 7, v := (src.value s).getLsbD 6,
                     z := decide (s.a &&& src.value s = 0) } [] :=
  answers_quiet s rfl (by simp) (by simp) (by simp) (by simp) (by simp) (by simp)

theorem shiftRotate_acc_answers (f : Byte → Bool → ShiftOut) :
    Answers (shiftRotate f .acc s) s { s.regs with a := (f s.a s.flagC).result, pc := s.pc + 1 }
      { s.flags with n := (f s.a s.flagC).result.getLsbD 7, z := decide ((f s.a s.flagC).result = 0),
                     c := (f s.a s.flagC).carry } [] :=
  answers_quiet s rfl (by simp [Target.store, Target.value, Target.length]) (by simp [Target.store, Target.value])
    (by simp [Target.store]) (by simp) (by simp [Target.store]) (by simp [Target.store])

theorem shiftRotate_mem_answers (f : Byte → Bool → ShiftOut) (m : MemMode) :
    let o := f (s.peek (m.ea s)) s.flagC
    Answers (shiftRotate f (.mem m) s) s { s.regs with pc := s.pc + BitVec.ofNat 16 m.length }
      { s.flags with n := o.result.getLsbD 7, z := decide (o.result = 0), c := o.carry } [(m.ea s, o.result)] :=
  ⟨_, rfl, by simp [Target.store, Target.length], by simp [Target.store, Target.value], by simp [Target.store], by simp,
    fun a => by
      rw [afterWrites_one, State.complete_peek, State.setNZ_peek, State.setC_peek]
      exact State.peek_poke s _ _ _, by simp [Target.store, Target.value]⟩

/-- A branch answers one of two next states. -/
theorem branch_eq (cond : Bool) (d : Byte) :
    branch cond d s = .next (if cond then s.jump (s.branchTarget d) else s.complete 2) := by
  cases cond <;> rfl

theorem branch_answers (cond : Bool) (d : Byte) :
    Answers (branch cond d s) s { s.regs with pc := if cond then s.pc + 2 + sext16 d else s.pc + 2 } s.flags [] := by
  cases cond <;> exact answers_quiet s rfl rfl rfl rfl rfl rfl rfl

/-- The pseudo-op answers one of two next states. -/
theorem pseudoOperation_eq (t : Byte) :
    pseudoOperation t s =
      .next (if s.params.pseudoOpHalts.contains t then ((s.emit (.pseudoOp t)).complete 2).halt true
             else (s.emit (.pseudoOp t)).complete 2) := by
  simp only [pseudoOperation]; split <;> rfl

/-- JSR writes the two bytes of its own last address and leaves the rest of memory. -/
theorem callSubroutine_peek (target : Word) {t : State} (h : callSubroutine target s = .next t) (b : Word) :
    t.peek b = afterWrites s [(wordOf 0x01 s.sp, hiByte (s.pc + 2)), (wordOf 0x01 (s.sp - 1), loByte (s.pc + 2))] b := by
  cases h
  rw [afterWrites_two, State.jump_peek, State.push_peek, State.push_peek]
  simp only [State.stackAddr, State.push_sp]
  rfl

/-- ADC answers a next state, whatever D is. -/
theorem addWithCarry_next (src : Source) : ∃ t, addWithCarry src s = .next t := by
  unfold addWithCarry; split <;> exact ⟨_, rfl⟩

/-- SBC answers a next state, whatever D is. -/
theorem subWithCarry_next (src : Source) : ∃ t, subWithCarry src s = .next t := by
  unfold subWithCarry; split <;> exact ⟨_, rfl⟩

end Sys2Proof.Machine
end

