-- ==== Sys2Proof/Laws/Accounts.lean ====
section
/-! SUPPORT. What it is for the events a state change appends to account for memory (20_memory.md R60): the relation,
that it composes, and that the shared operations have it. -/

namespace Sys2Proof.Machine

/-- Events are only appended, and each byte of memory is the last `changed` value appended for its address, else what
it was. -/
def Accounts (s t : State) : Prop :=
  ∃ new, t.events = s.events ++ new ∧ ∀ a, t.peek a = afterWrites s (new.filterMap Event.write) a

/-- Writes made after writes are the writes in order. -/
theorem afterWrites_append {s t : State} {ws : List (Word × Byte)} (vs : List (Word × Byte))
    (h : ∀ a, t.peek a = afterWrites s ws a) (a : Word) : afterWrites t vs a = afterWrites s (ws ++ vs) a := by
  simp only [afterWrites, List.reverse_append, List.find?_append]
  cases List.find? (fun w => w.1 == a) vs.reverse with
  | some w => simp
  | none => simp only [h, Option.none_or]; rfl

theorem Accounts.trans {s t u : State} (h : Accounts s t) (g : Accounts t u) : Accounts s u := by
  obtain ⟨n, hn, hp⟩ := h
  obtain ⟨m, hm, gp⟩ := g
  exact ⟨n ++ m, by simp [hm, hn], fun a => by rw [gp, afterWrites_append _ hp, List.filterMap_append]⟩

/-- No event and no write. -/
theorem Accounts.quiet {s t : State} (he : t.events = s.events) (hm : t.mem = s.mem) : Accounts s t :=
  ⟨[], by simp [he], fun a => State.peek_eq_of_mem hm a⟩

/-- One event that is no write. -/
theorem Accounts.event {s t : State} {e : Event} (he : t.events = s.events ++ [e]) (hm : t.mem = s.mem)
    (hw : e.write = none) : Accounts s t :=
  ⟨[e], he, fun a => by simp [hw, State.peek_eq_of_mem hm a]⟩

theorem Accounts.refl (s : State) : Accounts s s := .quiet rfl rfl

theorem Accounts.poke (s : State) (a : Word) (v : Byte) : Accounts s (s.poke a v) :=
  ⟨[.changed a v], rfl, fun b => by simp [afterWrites_one, State.peek_poke]⟩

theorem Accounts.push (s : State) (v : Byte) : Accounts s (s.push v) := by
  refine ⟨_, State.push_events s v, fun b => ?_⟩
  rw [State.push_peek]
  simp [afterWrites_one]

theorem Accounts.pull (s : State) : Accounts s s.pull := by
  refine ⟨_, State.pull_events s, fun b => ?_⟩
  rw [State.pull_peek]
  simp

theorem Accounts.emit (s : State) (n : EngineNote) : Accounts s (s.emit n) := .event (State.emit_events s n) rfl rfl

theorem Accounts.halt (s : State) (e : Bool) : Accounts s (s.halt e) := .event (State.halt_events s e) rfl rfl

/-- A meaning whose answer `Answers` describes. -/
theorem Accounts.of_answers {r : Result} {s t : State} {regs : Regs} {flags : Flags} {ws : List (Word × Byte)}
    (h : Answers r s regs flags ws) (ht : r = .next t) : Accounts s t := by
  obtain ⟨u, hu, _, _, _, _, hp, he⟩ := h
  cases ht.symm.trans hu
  exact ⟨_, he, fun a => by rw [hp]; simp [List.filterMap_map, Function.comp_def]⟩

end Sys2Proof.Machine
end

