-- ==== Sys2Proof/Laws/Decode.lean ====
section
/-! SUPPORT. The byte order helpers, and what the decoder does with a byte that has a row. -/

namespace Sys2Proof

@[simp] theorem wordOf_hiByte_loByte (w : Word) : wordOf (hiByte w) (loByte w) = w := by
  apply BitVec.eq_of_toNat_eq
  simp only [wordOf, hiByte, loByte, BitVec.toNat_append, BitVec.extractLsb'_toNat]
  have hw : w.toNat < 65536 := w.isLt
  rw [← Nat.shiftLeft_add_eq_or_of_lt (by omega)]
  simp only [Nat.shiftLeft_eq, Nat.shiftRight_eq_div_pow]
  omega

@[simp] theorem loByte_wordOf (hi lo : Byte) : loByte (wordOf hi lo) = lo := by
  apply BitVec.eq_of_toNat_eq
  simp only [wordOf, loByte, BitVec.toNat_append, BitVec.extractLsb'_toNat]
  have := lo.isLt
  rw [← Nat.shiftLeft_add_eq_or_of_lt (by omega)]
  simp only [Nat.shiftLeft_eq]
  omega

@[simp] theorem hiByte_wordOf (hi lo : Byte) : hiByte (wordOf hi lo) = hi := by
  apply BitVec.eq_of_toNat_eq
  simp only [wordOf, hiByte, BitVec.toNat_append, BitVec.extractLsb'_toNat]
  have := lo.isLt
  have := hi.isLt
  rw [← Nat.shiftLeft_add_eq_or_of_lt (by omega)]
  simp only [Nat.shiftLeft_eq, Nat.shiftRight_eq_div_pow]
  omega

/-- A word as a number: 256 times its high byte plus its low byte (R7). -/
theorem wordOf_toNat (hi lo : Byte) : (wordOf hi lo).toNat = 256 * hi.toNat + lo.toNat := by
  simp only [wordOf, BitVec.toNat_append]
  have := lo.isLt
  rw [← Nat.shiftLeft_add_eq_or_of_lt (by omega)]
  simp only [Nat.shiftLeft_eq]
  omega

/-- The decoder on the pseudo-op byte (R97). -/
theorem decode_pseudoOp (ps : Params) (t : Byte) (rest : List Byte) :
    decode ps (ps.pseudoOp :: t :: rest) = .ok (.pseudoOp t, rest) := by simp [decode]

/-- The decoder on a byte that has a row and is not PSEUDO_OP (R81). -/
theorem decode_row {ps : Params} {op : Byte} {row : Row} (rest : List Byte) (hop : op ≠ ps.pseudoOp)
    (h : lookup op = some row) (hlen : row.length ≤ rest.length + 1) :
    decode ps (op :: rest) =
      .ok (row.make (rest.getD 0 0) (rest.getD 1 0), rest.drop (row.length - 1)) := by
  simp only [decode, if_neg hop, h, if_neg (Nat.not_lt.2 hlen)]

/-- The decoder refuses a byte that has no row and is not PSEUDO_OP, by name (R96). -/
theorem decode_illegal {ps : Params} {op : Byte} (rest : List Byte) (hop : op ≠ ps.pseudoOp)
    (h : lookup op = none) : decode ps (op :: rest) = .error (.illegalOpcode op) := by
  simp only [decode, if_neg hop, h]

set_option maxRecDepth 20000 in
/-- No two rows of the table share an opcode byte: the rows stand in rising order of it (R98). -/
theorem opcodes_rise : List.Pairwise (· < ·) (opcodeTable.map (fun r => r.opcode.toNat)) := by decide

/-- In rows that rise by opcode byte, the search for a row's byte finds the row. -/
theorem find_of_rising {l : List Row} (h : List.Pairwise (· < ·) (l.map (fun r => r.opcode.toNat))) {row : Row}
    (hm : row ∈ l) : l.find? (fun r => r.opcode == row.opcode) = some row := by
  induction l with
  | nil => cases hm
  | cons a l ih =>
    rw [List.map_cons, List.pairwise_cons] at h
    rcases List.mem_cons.1 hm with rfl | hm'
    · simp
    · have hlt : a.opcode.toNat < row.opcode.toNat := h.1 _ (List.mem_map.2 ⟨row, hm', rfl⟩)
      rw [List.find?_cons_of_neg fun he => Nat.lt_irrefl _ (eq_of_beq he ▸ hlt)]
      exact ih h.2 hm'

/-- Lookup of a row's opcode byte gives the row (R81). -/
theorem lookup_of_mem {row : Row} (h : row ∈ opcodeTable) : lookup row.opcode = some row := find_of_rising opcodes_rise h

/-- What lookup gives is a row of the table with that opcode byte. -/
theorem mem_of_lookup {op : Byte} {row : Row} (h : lookup op = some row) : row ∈ opcodeTable ∧ row.opcode = op :=
  ⟨List.mem_of_find?_eq_some h, by simpa using List.find?_some h⟩

/-- What rowFor gives is a row of the table with that mnemonic and mode. -/
theorem mem_of_rowFor {mn : Mnemonic} {m : Mode} {row : Row} (h : rowFor mn m = some row) :
    row ∈ opcodeTable ∧ row.mnemonic = mn ∧ row.mode = m :=
  ⟨List.mem_of_find?_eq_some h, by simpa using List.find?_some h⟩

end Sys2Proof
end

