-- ==== Sys2Proof/Laws/Engine.lean ====
section
/-! SUPPORT. The core step: it answers a next state in every state, and which one. -/

namespace Sys2Proof.Machine

/-- Every instruction answers a next state in every state: no meaning faults or refuses by outcome. -/
theorem exec_next (i : Instr) (s : State) : ∃ t, exec i s = .next t := by
  cases i with
  | brk | oraIndx | oraZp | aslZp | php | oraImm | aslAcc | oraAbs | aslAbs | oraIndy | oraZpx | aslZpx | clc
  | oraAbsy | oraAbsx | aslAbsx | jsr | andIndx | bitZp | andZp | rolZp | plp | andImm | rolAcc | bitAbs
  | andAbs | rolAbs | andIndy | andZpx | rolZpx | sec | andAbsy | andAbsx | rolAbsx | rti | eorIndx | eorZp
  | lsrZp | pha | eorImm | lsrAcc | jmpAbs | eorAbs | lsrAbs | eorIndy | eorZpx | lsrZpx | cli | eorAbsy
  | eorAbsx | lsrAbsx | rts | rorZp | pla | rorAcc | jmpInd | rorAbs | rorZpx | sei | rorAbsx | staIndx
  | styZp | staZp | stxZp | dey | txa | styAbs | staAbs | stxAbs | staIndy | styZpx | staZpx | stxZpy | tya
  | staAbsy | txs | staAbsx | ldyImm | ldaIndx | ldxImm | ldyZp | ldaZp | ldxZp | tay | ldaImm | tax | ldyAbs
  | ldaAbs | ldxAbs | ldaIndy | ldyZpx | ldaZpx | ldxZpy | clv | ldaAbsy | tsx | ldyAbsx | ldaAbsx | ldxAbsy
  | cpyImm | cmpIndx | cpyZp | cmpZp | decZp | iny | cmpImm | dex | cpyAbs | cmpAbs | decAbs | cmpIndy
  | cmpZpx | decZpx | cld | cmpAbsy | cmpAbsx | decAbsx | cpxImm | cpxZp | incZp | inx | nop | cpxAbs
  | incAbs | incZpx | sed | incAbsx => exact ⟨_, rfl⟩
  | bpl | bmi | bvc | bvs | bcc | bcs | bne | beq => exact ⟨_, branch_eq s _ _⟩
  | adcIndx | adcZp | adcImm | adcAbs | adcIndy | adcZpx | adcAbsy | adcAbsx => exact addWithCarry_next s _
  | sbcIndx | sbcZp | sbcImm | sbcAbs | sbcIndy | sbcZpx | sbcAbsy | sbcAbsx => exact subWithCarry_next s _
  | pseudoOp => exact ⟨_, pseudoOperation_eq s _⟩

/-- The core step answers a next state in every state. -/
theorem coreStep_next (s : State) : ∃ t, coreStep s = .next t := by
  unfold coreStep fetchAndRun
  split
  · exact ⟨_, rfl⟩
  · split
    · split
      · exact exec_next _ s
      · exact ⟨_, rfl⟩
    · exact ⟨_, rfl⟩

/-- `afterStep` is the state the step answers. -/
theorem step_afterStep (s : State) : step s = .next (afterStep s) := by
  obtain ⟨t, h⟩ := coreStep_next s
  have : step s = .next t := h
  simp [afterStep, this]

/-- Everything a core step can do (R240, R325): nothing while a refusal or a fault stands; the code-range halt;
IllegalOpcode; or the instruction. -/
theorem step_cases {s t : State} (h : step s = .next t) :
    ((s.refused ≠ none ∨ s.fault ≠ none) ∧ t = s.noStep) ∨
    (s.refused = none ∧ s.fault = none ∧ s.inCode = false ∧ t = s.halt false) ∨
    (s.refused = none ∧ s.fault = none ∧ s.inCode = true ∧ (∃ e, s.fetched = .error e) ∧
      t = s.raise .illegalOpcode (s.peek s.pc)) ∨
    (s.refused = none ∧ s.fault = none ∧ s.inCode = true ∧ ∃ i, s.fetched = .ok i ∧ exec i s = .next t) := by
  unfold step coreStep fetchAndRun at h
  split at h
  · rename_i hm; cases h; exact .inl ⟨hm, rfl⟩
  · rename_i hm
    simp only [ne_eq, not_or, Decidable.not_not] at hm
    split at h
    · rename_i hc
      split at h
      · rename_i i hi; exact .inr (.inr (.inr ⟨hm.1, hm.2, hc, i, hi, h⟩))
      · rename_i e he; cases h; exact .inr (.inr (.inl ⟨hm.1, hm.2, hc, ⟨e, he⟩, rfl⟩))
    · rename_i hc
      cases h
      exact .inr (.inl ⟨hm.1, hm.2, by simpa using hc, rfl⟩)

end Sys2Proof.Machine
end

