-- ==== Sys2Proof/Laws/PerInstr.lean ====
section
/-! SUPPORT. The per-instruction family `EncodesItsRow`: one lemma per constructor of `Instr`. -/

/-- The instruction's bytes are the pseudo-op's, or are those of one row of the opcode table: the row that lookup finds
for the first byte has as many bytes as the encoding, and makes the instruction from the operand bytes. -/
def Sys2Proof.Laws.EncodesItsRow.Statement (i : Sys2Proof.Instr) : Prop :=
  ∀ ps : Sys2Proof.Params,
    (∃ t, i = .pseudoOp t ∧ Sys2Proof.encode ps i = [ps.pseudoOp, t]) ∨
    (∃ op operands row, Sys2Proof.encode ps i = op :: operands ∧ Sys2Proof.lookup op = some row ∧
      row.length = operands.length + 1 ∧ row.make (operands.getD 0 0) (operands.getD 1 0) = i)

namespace Sys2Proof.Laws.EncodesItsRow

theorem brk : Statement .brk :=
  fun _ => .inr ⟨_, _, _, rfl, rfl, rfl, rfl⟩
theorem oraIndx (z : Byte) : Statement (.oraIndx z) :=
  fun _ => .inr ⟨_, _, _, rfl, rfl, rfl, rfl⟩
theorem oraZp (z : Byte) : Statement (.oraZp z) :=
  fun _ => .inr ⟨_, _, _, rfl, rfl, rfl, rfl⟩
theorem aslZp (z : Byte) : Statement (.aslZp z) :=
  fun _ => .inr ⟨_, _, _, rfl, rfl, rfl, rfl⟩
theorem php : Statement .php :=
  fun _ => .inr ⟨_, _, _, rfl, rfl, rfl, rfl⟩
theorem oraImm (v : Byte) : Statement (.oraImm v) :=
  fun _ => .inr ⟨_, _, _, rfl, rfl, rfl, rfl⟩
theorem aslAcc : Statement .aslAcc :=
  fun _ => .inr ⟨_, _, _, rfl, rfl, rfl, rfl⟩
theorem oraAbs (w : Word) : Statement (.oraAbs w) :=
  fun _ => .inr ⟨_, _, _, rfl, rfl, rfl, congrArg Instr.oraAbs (wordOf_hiByte_loByte w)⟩
theorem aslAbs (w : Word) : Statement (.aslAbs w) :=
  fun _ => .inr ⟨_, _, _, rfl, rfl, rfl, congrArg Instr.aslAbs (wordOf_hiByte_loByte w)⟩
theorem bpl (d : Byte) : Statement (.bpl d) :=
  fun _ => .inr ⟨_, _, _, rfl, rfl, rfl, rfl⟩
theorem oraIndy (z : Byte) : Statement (.oraIndy z) :=
  fun _ => .inr ⟨_, _, _, rfl, rfl, rfl, rfl⟩
theorem oraZpx (z : Byte) : Statement (.oraZpx z) :=
  fun _ => .inr ⟨_, _, _, rfl, rfl, rfl, rfl⟩
theorem aslZpx (z : Byte) : Statement (.aslZpx z) :=
  fun _ => .inr ⟨_, _, _, rfl, rfl, rfl, rfl⟩
theorem clc : Statement .clc :=
  fun _ => .inr ⟨_, _, _, rfl, rfl, rfl, rfl⟩
theorem oraAbsy (w : Word) : Statement (.oraAbsy w) :=
  fun _ => .inr ⟨_, _, _, rfl, rfl, rfl, congrArg Instr.oraAbsy (wordOf_hiByte_loByte w)⟩
theorem oraAbsx (w : Word) : Statement (.oraAbsx w) :=
  fun _ => .inr ⟨_, _, _, rfl, rfl, rfl, congrArg Instr.oraAbsx (wordOf_hiByte_loByte w)⟩
theorem aslAbsx (w : Word) : Statement (.aslAbsx w) :=
  fun _ => .inr ⟨_, _, _, rfl, rfl, rfl, congrArg Instr.aslAbsx (wordOf_hiByte_loByte w)⟩
theorem jsr (w : Word) : Statement (.jsr w) :=
  fun _ => .inr ⟨_, _, _, rfl, rfl, rfl, congrArg Instr.jsr (wordOf_hiByte_loByte w)⟩
theorem andIndx (z : Byte) : Statement (.andIndx z) :=
  fun _ => .inr ⟨_, _, _, rfl, rfl, rfl, rfl⟩
theorem bitZp (z : Byte) : Statement (.bitZp z) :=
  fun _ => .inr ⟨_, _, _, rfl, rfl, rfl, rfl⟩
theorem andZp (z : Byte) : Statement (.andZp z) :=
  fun _ => .inr ⟨_, _, _, rfl, rfl, rfl, rfl⟩
theorem rolZp (z : Byte) : Statement (.rolZp z) :=
  fun _ => .inr ⟨_, _, _, rfl, rfl, rfl, rfl⟩
theorem plp : Statement .plp :=
  fun _ => .inr ⟨_, _, _, rfl, rfl, rfl, rfl⟩
theorem andImm (v : Byte) : Statement (.andImm v) :=
  fun _ => .inr ⟨_, _, _, rfl, rfl, rfl, rfl⟩
theorem rolAcc : Statement .rolAcc :=
  fun _ => .inr ⟨_, _, _, rfl, rfl, rfl, rfl⟩
theorem bitAbs (w : Word) : Statement (.bitAbs w) :=
  fun _ => .inr ⟨_, _, _, rfl, rfl, rfl, congrArg Instr.bitAbs (wordOf_hiByte_loByte w)⟩
theorem andAbs (w : Word) : Statement (.andAbs w) :=
  fun _ => .inr ⟨_, _, _, rfl, rfl, rfl, congrArg Instr.andAbs (wordOf_hiByte_loByte w)⟩
theorem rolAbs (w : Word) : Statement (.rolAbs w) :=
  fun _ => .inr ⟨_, _, _, rfl, rfl, rfl, congrArg Instr.rolAbs (wordOf_hiByte_loByte w)⟩
theorem bmi (d : Byte) : Statement (.bmi d) :=
  fun _ => .inr ⟨_, _, _, rfl, rfl, rfl, rfl⟩
theorem andIndy (z : Byte) : Statement (.andIndy z) :=
  fun _ => .inr ⟨_, _, _, rfl, rfl, rfl, rfl⟩
theorem andZpx (z : Byte) : Statement (.andZpx z) :=
  fun _ => .inr ⟨_, _, _, rfl, rfl, rfl, rfl⟩
theorem rolZpx (z : Byte) : Statement (.rolZpx z) :=
  fun _ => .inr ⟨_, _, _, rfl, rfl, rfl, rfl⟩
theorem sec : Statement .sec :=
  fun _ => .inr ⟨_, _, _, rfl, rfl, rfl, rfl⟩
theorem andAbsy (w : Word) : Statement (.andAbsy w) :=
  fun _ => .inr ⟨_, _, _, rfl, rfl, rfl, congrArg Instr.andAbsy (wordOf_hiByte_loByte w)⟩
theorem andAbsx (w : Word) : Statement (.andAbsx w) :=
  fun _ => .inr ⟨_, _, _, rfl, rfl, rfl, congrArg Instr.andAbsx (wordOf_hiByte_loByte w)⟩
theorem rolAbsx (w : Word) : Statement (.rolAbsx w) :=
  fun _ => .inr ⟨_, _, _, rfl, rfl, rfl, congrArg Instr.rolAbsx (wordOf_hiByte_loByte w)⟩
theorem rti : Statement .rti :=
  fun _ => .inr ⟨_, _, _, rfl, rfl, rfl, rfl⟩
theorem eorIndx (z : Byte) : Statement (.eorIndx z) :=
  fun _ => .inr ⟨_, _, _, rfl, rfl, rfl, rfl⟩
theorem eorZp (z : Byte) : Statement (.eorZp z) :=
  fun _ => .inr ⟨_, _, _, rfl, rfl, rfl, rfl⟩
theorem lsrZp (z : Byte) : Statement (.lsrZp z) :=
  fun _ => .inr ⟨_, _, _, rfl, rfl, rfl, rfl⟩
theorem pha : Statement .pha :=
  fun _ => .inr ⟨_, _, _, rfl, rfl, rfl, rfl⟩
theorem eorImm (v : Byte) : Statement (.eorImm v) :=
  fun _ => .inr ⟨_, _, _, rfl, rfl, rfl, rfl⟩
theorem lsrAcc : Statement .lsrAcc :=
  fun _ => .inr ⟨_, _, _, rfl, rfl, rfl, rfl⟩
theorem jmpAbs (w : Word) : Statement (.jmpAbs w) :=
  fun _ => .inr ⟨_, _, _, rfl, rfl, rfl, congrArg Instr.jmpAbs (wordOf_hiByte_loByte w)⟩
theorem eorAbs (w : Word) : Statement (.eorAbs w) :=
  fun _ => .inr ⟨_, _, _, rfl, rfl, rfl, congrArg Instr.eorAbs (wordOf_hiByte_loByte w)⟩
theorem lsrAbs (w : Word) : Statement (.lsrAbs w) :=
  fun _ => .inr ⟨_, _, _, rfl, rfl, rfl, congrArg Instr.lsrAbs (wordOf_hiByte_loByte w)⟩
theorem bvc (d : Byte) : Statement (.bvc d) :=
  fun _ => .inr ⟨_, _, _, rfl, rfl, rfl, rfl⟩
theorem eorIndy (z : Byte) : Statement (.eorIndy z) :=
  fun _ => .inr ⟨_, _, _, rfl, rfl, rfl, rfl⟩
theorem eorZpx (z : Byte) : Statement (.eorZpx z) :=
  fun _ => .inr ⟨_, _, _, rfl, rfl, rfl, rfl⟩
theorem lsrZpx (z : Byte) : Statement (.lsrZpx z) :=
  fun _ => .inr ⟨_, _, _, rfl, rfl, rfl, rfl⟩
theorem cli : Statement .cli :=
  fun _ => .inr ⟨_, _, _, rfl, rfl, rfl, rfl⟩
theorem eorAbsy (w : Word) : Statement (.eorAbsy w) :=
  fun _ => .inr ⟨_, _, _, rfl, rfl, rfl, congrArg Instr.eorAbsy (wordOf_hiByte_loByte w)⟩
theorem eorAbsx (w : Word) : Statement (.eorAbsx w) :=
  fun _ => .inr ⟨_, _, _, rfl, rfl, rfl, congrArg Instr.eorAbsx (wordOf_hiByte_loByte w)⟩
theorem lsrAbsx (w : Word) : Statement (.lsrAbsx w) :=
  fun _ => .inr ⟨_, _, _, rfl, rfl, rfl, congrArg Instr.lsrAbsx (wordOf_hiByte_loByte w)⟩
theorem rts : Statement .rts :=
  fun _ => .inr ⟨_, _, _, rfl, rfl, rfl, rfl⟩
theorem adcIndx (z : Byte) : Statement (.adcIndx z) :=
  fun _ => .inr ⟨_, _, _, rfl, rfl, rfl, rfl⟩
theorem adcZp (z : Byte) : Statement (.adcZp z) :=
  fun _ => .inr ⟨_, _, _, rfl, rfl, rfl, rfl⟩
theorem rorZp (z : Byte) : Statement (.rorZp z) :=
  fun _ => .inr ⟨_, _, _, rfl, rfl, rfl, rfl⟩
theorem pla : Statement .pla :=
  fun _ => .inr ⟨_, _, _, rfl, rfl, rfl, rfl⟩
theorem adcImm (v : Byte) : Statement (.adcImm v) :=
  fun _ => .inr ⟨_, _, _, rfl, rfl, rfl, rfl⟩
theorem rorAcc : Statement .rorAcc :=
  fun _ => .inr ⟨_, _, _, rfl, rfl, rfl, rfl⟩
theorem jmpInd (w : Word) : Statement (.jmpInd w) :=
  fun _ => .inr ⟨_, _, _, rfl, rfl, rfl, congrArg Instr.jmpInd (wordOf_hiByte_loByte w)⟩
theorem adcAbs (w : Word) : Statement (.adcAbs w) :=
  fun _ => .inr ⟨_, _, _, rfl, rfl, rfl, congrArg Instr.adcAbs (wordOf_hiByte_loByte w)⟩
theorem rorAbs (w : Word) : Statement (.rorAbs w) :=
  fun _ => .inr ⟨_, _, _, rfl, rfl, rfl, congrArg Instr.rorAbs (wordOf_hiByte_loByte w)⟩
theorem bvs (d : Byte) : Statement (.bvs d) :=
  fun _ => .inr ⟨_, _, _, rfl, rfl, rfl, rfl⟩
theorem adcIndy (z : Byte) : Statement (.adcIndy z) :=
  fun _ => .inr ⟨_, _, _, rfl, rfl, rfl, rfl⟩
theorem adcZpx (z : Byte) : Statement (.adcZpx z) :=
  fun _ => .inr ⟨_, _, _, rfl, rfl, rfl, rfl⟩
theorem rorZpx (z : Byte) : Statement (.rorZpx z) :=
  fun _ => .inr ⟨_, _, _, rfl, rfl, rfl, rfl⟩
theorem sei : Statement .sei :=
  fun _ => .inr ⟨_, _, _, rfl, rfl, rfl, rfl⟩
theorem adcAbsy (w : Word) : Statement (.adcAbsy w) :=
  fun _ => .inr ⟨_, _, _, rfl, rfl, rfl, congrArg Instr.adcAbsy (wordOf_hiByte_loByte w)⟩
theorem adcAbsx (w : Word) : Statement (.adcAbsx w) :=
  fun _ => .inr ⟨_, _, _, rfl, rfl, rfl, congrArg Instr.adcAbsx (wordOf_hiByte_loByte w)⟩
theorem rorAbsx (w : Word) : Statement (.rorAbsx w) :=
  fun _ => .inr ⟨_, _, _, rfl, rfl, rfl, congrArg Instr.rorAbsx (wordOf_hiByte_loByte w)⟩
theorem staIndx (z : Byte) : Statement (.staIndx z) :=
  fun _ => .inr ⟨_, _, _, rfl, rfl, rfl, rfl⟩
theorem styZp (z : Byte) : Statement (.styZp z) :=
  fun _ => .inr ⟨_, _, _, rfl, rfl, rfl, rfl⟩
theorem staZp (z : Byte) : Statement (.staZp z) :=
  fun _ => .inr ⟨_, _, _, rfl, rfl, rfl, rfl⟩
theorem stxZp (z : Byte) : Statement (.stxZp z) :=
  fun _ => .inr ⟨_, _, _, rfl, rfl, rfl, rfl⟩
theorem dey : Statement .dey :=
  fun _ => .inr ⟨_, _, _, rfl, rfl, rfl, rfl⟩
theorem txa : Statement .txa :=
  fun _ => .inr ⟨_, _, _, rfl, rfl, rfl, rfl⟩
theorem styAbs (w : Word) : Statement (.styAbs w) :=
  fun _ => .inr ⟨_, _, _, rfl, rfl, rfl, congrArg Instr.styAbs (wordOf_hiByte_loByte w)⟩
theorem staAbs (w : Word) : Statement (.staAbs w) :=
  fun _ => .inr ⟨_, _, _, rfl, rfl, rfl, congrArg Instr.staAbs (wordOf_hiByte_loByte w)⟩
theorem stxAbs (w : Word) : Statement (.stxAbs w) :=
  fun _ => .inr ⟨_, _, _, rfl, rfl, rfl, congrArg Instr.stxAbs (wordOf_hiByte_loByte w)⟩
theorem bcc (d : Byte) : Statement (.bcc d) :=
  fun _ => .inr ⟨_, _, _, rfl, rfl, rfl, rfl⟩
theorem staIndy (z : Byte) : Statement (.staIndy z) :=
  fun _ => .inr ⟨_, _, _, rfl, rfl, rfl, rfl⟩
theorem styZpx (z : Byte) : Statement (.styZpx z) :=
  fun _ => .inr ⟨_, _, _, rfl, rfl, rfl, rfl⟩
theorem staZpx (z : Byte) : Statement (.staZpx z) :=
  fun _ => .inr ⟨_, _, _, rfl, rfl, rfl, rfl⟩
theorem stxZpy (z : Byte) : Statement (.stxZpy z) :=
  fun _ => .inr ⟨_, _, _, rfl, rfl, rfl, rfl⟩
theorem tya : Statement .tya :=
  fun _ => .inr ⟨_, _, _, rfl, rfl, rfl, rfl⟩
theorem staAbsy (w : Word) : Statement (.staAbsy w) :=
  fun _ => .inr ⟨_, _, _, rfl, rfl, rfl, congrArg Instr.staAbsy (wordOf_hiByte_loByte w)⟩
theorem txs : Statement .txs :=
  fun _ => .inr ⟨_, _, _, rfl, rfl, rfl, rfl⟩
theorem staAbsx (w : Word) : Statement (.staAbsx w) :=
  fun _ => .inr ⟨_, _, _, rfl, rfl, rfl, congrArg Instr.staAbsx (wordOf_hiByte_loByte w)⟩
theorem ldyImm (v : Byte) : Statement (.ldyImm v) :=
  fun _ => .inr ⟨_, _, _, rfl, rfl, rfl, rfl⟩
theorem ldaIndx (z : Byte) : Statement (.ldaIndx z) :=
  fun _ => .inr ⟨_, _, _, rfl, rfl, rfl, rfl⟩
theorem ldxImm (v : Byte) : Statement (.ldxImm v) :=
  fun _ => .inr ⟨_, _, _, rfl, rfl, rfl, rfl⟩
theorem ldyZp (z : Byte) : Statement (.ldyZp z) :=
  fun _ => .inr ⟨_, _, _, rfl, rfl, rfl, rfl⟩
theorem ldaZp (z : Byte) : Statement (.ldaZp z) :=
  fun _ => .inr ⟨_, _, _, rfl, rfl, rfl, rfl⟩
theorem ldxZp (z : Byte) : Statement (.ldxZp z) :=
  fun _ => .inr ⟨_, _, _, rfl, rfl, rfl, rfl⟩
theorem tay : Statement .tay :=
  fun _ => .inr ⟨_, _, _, rfl, rfl, rfl, rfl⟩
theorem ldaImm (v : Byte) : Statement (.ldaImm v) :=
  fun _ => .inr ⟨_, _, _, rfl, rfl, rfl, rfl⟩
theorem tax : Statement .tax :=
  fun _ => .inr ⟨_, _, _, rfl, rfl, rfl, rfl⟩
theorem ldyAbs (w : Word) : Statement (.ldyAbs w) :=
  fun _ => .inr ⟨_, _, _, rfl, rfl, rfl, congrArg Instr.ldyAbs (wordOf_hiByte_loByte w)⟩
theorem ldaAbs (w : Word) : Statement (.ldaAbs w) :=
  fun _ => .inr ⟨_, _, _, rfl, rfl, rfl, congrArg Instr.ldaAbs (wordOf_hiByte_loByte w)⟩
theorem ldxAbs (w : Word) : Statement (.ldxAbs w) :=
  fun _ => .inr ⟨_, _, _, rfl, rfl, rfl, congrArg Instr.ldxAbs (wordOf_hiByte_loByte w)⟩
theorem bcs (d : Byte) : Statement (.bcs d) :=
  fun _ => .inr ⟨_, _, _, rfl, rfl, rfl, rfl⟩
theorem ldaIndy (z : Byte) : Statement (.ldaIndy z) :=
  fun _ => .inr ⟨_, _, _, rfl, rfl, rfl, rfl⟩
theorem ldyZpx (z : Byte) : Statement (.ldyZpx z) :=
  fun _ => .inr ⟨_, _, _, rfl, rfl, rfl, rfl⟩
theorem ldaZpx (z : Byte) : Statement (.ldaZpx z) :=
  fun _ => .inr ⟨_, _, _, rfl, rfl, rfl, rfl⟩
theorem ldxZpy (z : Byte) : Statement (.ldxZpy z) :=
  fun _ => .inr ⟨_, _, _, rfl, rfl, rfl, rfl⟩
theorem clv : Statement .clv :=
  fun _ => .inr ⟨_, _, _, rfl, rfl, rfl, rfl⟩
theorem ldaAbsy (w : Word) : Statement (.ldaAbsy w) :=
  fun _ => .inr ⟨_, _, _, rfl, rfl, rfl, congrArg Instr.ldaAbsy (wordOf_hiByte_loByte w)⟩
theorem tsx : Statement .tsx :=
  fun _ => .inr ⟨_, _, _, rfl, rfl, rfl, rfl⟩
theorem ldyAbsx (w : Word) : Statement (.ldyAbsx w) :=
  fun _ => .inr ⟨_, _, _, rfl, rfl, rfl, congrArg Instr.ldyAbsx (wordOf_hiByte_loByte w)⟩
theorem ldaAbsx (w : Word) : Statement (.ldaAbsx w) :=
  fun _ => .inr ⟨_, _, _, rfl, rfl, rfl, congrArg Instr.ldaAbsx (wordOf_hiByte_loByte w)⟩
theorem ldxAbsy (w : Word) : Statement (.ldxAbsy w) :=
  fun _ => .inr ⟨_, _, _, rfl, rfl, rfl, congrArg Instr.ldxAbsy (wordOf_hiByte_loByte w)⟩
theorem cpyImm (v : Byte) : Statement (.cpyImm v) :=
  fun _ => .inr ⟨_, _, _, rfl, rfl, rfl, rfl⟩
theorem cmpIndx (z : Byte) : Statement (.cmpIndx z) :=
  fun _ => .inr ⟨_, _, _, rfl, rfl, rfl, rfl⟩
theorem cpyZp (z : Byte) : Statement (.cpyZp z) :=
  fun _ => .inr ⟨_, _, _, rfl, rfl, rfl, rfl⟩
theorem cmpZp (z : Byte) : Statement (.cmpZp z) :=
  fun _ => .inr ⟨_, _, _, rfl, rfl, rfl, rfl⟩
theorem decZp (z : Byte) : Statement (.decZp z) :=
  fun _ => .inr ⟨_, _, _, rfl, rfl, rfl, rfl⟩
theorem iny : Statement .iny :=
  fun _ => .inr ⟨_, _, _, rfl, rfl, rfl, rfl⟩
theorem cmpImm (v : Byte) : Statement (.cmpImm v) :=
  fun _ => .inr ⟨_, _, _, rfl, rfl, rfl, rfl⟩
theorem dex : Statement .dex :=
  fun _ => .inr ⟨_, _, _, rfl, rfl, rfl, rfl⟩
theorem cpyAbs (w : Word) : Statement (.cpyAbs w) :=
  fun _ => .inr ⟨_, _, _, rfl, rfl, rfl, congrArg Instr.cpyAbs (wordOf_hiByte_loByte w)⟩
theorem cmpAbs (w : Word) : Statement (.cmpAbs w) :=
  fun _ => .inr ⟨_, _, _, rfl, rfl, rfl, congrArg Instr.cmpAbs (wordOf_hiByte_loByte w)⟩
theorem decAbs (w : Word) : Statement (.decAbs w) :=
  fun _ => .inr ⟨_, _, _, rfl, rfl, rfl, congrArg Instr.decAbs (wordOf_hiByte_loByte w)⟩
theorem bne (d : Byte) : Statement (.bne d) :=
  fun _ => .inr ⟨_, _, _, rfl, rfl, rfl, rfl⟩
theorem cmpIndy (z : Byte) : Statement (.cmpIndy z) :=
  fun _ => .inr ⟨_, _, _, rfl, rfl, rfl, rfl⟩
theorem cmpZpx (z : Byte) : Statement (.cmpZpx z) :=
  fun _ => .inr ⟨_, _, _, rfl, rfl, rfl, rfl⟩
theorem decZpx (z : Byte) : Statement (.decZpx z) :=
  fun _ => .inr ⟨_, _, _, rfl, rfl, rfl, rfl⟩
theorem cld : Statement .cld :=
  fun _ => .inr ⟨_, _, _, rfl, rfl, rfl, rfl⟩
theorem cmpAbsy (w : Word) : Statement (.cmpAbsy w) :=
  fun _ => .inr ⟨_, _, _, rfl, rfl, rfl, congrArg Instr.cmpAbsy (wordOf_hiByte_loByte w)⟩
theorem cmpAbsx (w : Word) : Statement (.cmpAbsx w) :=
  fun _ => .inr ⟨_, _, _, rfl, rfl, rfl, congrArg Instr.cmpAbsx (wordOf_hiByte_loByte w)⟩
theorem decAbsx (w : Word) : Statement (.decAbsx w) :=
  fun _ => .inr ⟨_, _, _, rfl, rfl, rfl, congrArg Instr.decAbsx (wordOf_hiByte_loByte w)⟩
theorem cpxImm (v : Byte) : Statement (.cpxImm v) :=
  fun _ => .inr ⟨_, _, _, rfl, rfl, rfl, rfl⟩
theorem sbcIndx (z : Byte) : Statement (.sbcIndx z) :=
  fun _ => .inr ⟨_, _, _, rfl, rfl, rfl, rfl⟩
theorem cpxZp (z : Byte) : Statement (.cpxZp z) :=
  fun _ => .inr ⟨_, _, _, rfl, rfl, rfl, rfl⟩
theorem sbcZp (z : Byte) : Statement (.sbcZp z) :=
  fun _ => .inr ⟨_, _, _, rfl, rfl, rfl, rfl⟩
theorem incZp (z : Byte) : Statement (.incZp z) :=
  fun _ => .inr ⟨_, _, _, rfl, rfl, rfl, rfl⟩
theorem inx : Statement .inx :=
  fun _ => .inr ⟨_, _, _, rfl, rfl, rfl, rfl⟩
theorem sbcImm (v : Byte) : Statement (.sbcImm v) :=
  fun _ => .inr ⟨_, _, _, rfl, rfl, rfl, rfl⟩
theorem nop : Statement .nop :=
  fun _ => .inr ⟨_, _, _, rfl, rfl, rfl, rfl⟩
theorem cpxAbs (w : Word) : Statement (.cpxAbs w) :=
  fun _ => .inr ⟨_, _, _, rfl, rfl, rfl, congrArg Instr.cpxAbs (wordOf_hiByte_loByte w)⟩
theorem sbcAbs (w : Word) : Statement (.sbcAbs w) :=
  fun _ => .inr ⟨_, _, _, rfl, rfl, rfl, congrArg Instr.sbcAbs (wordOf_hiByte_loByte w)⟩
theorem incAbs (w : Word) : Statement (.incAbs w) :=
  fun _ => .inr ⟨_, _, _, rfl, rfl, rfl, congrArg Instr.incAbs (wordOf_hiByte_loByte w)⟩
theorem beq (d : Byte) : Statement (.beq d) :=
  fun _ => .inr ⟨_, _, _, rfl, rfl, rfl, rfl⟩
theorem sbcIndy (z : Byte) : Statement (.sbcIndy z) :=
  fun _ => .inr ⟨_, _, _, rfl, rfl, rfl, rfl⟩
theorem sbcZpx (z : Byte) : Statement (.sbcZpx z) :=
  fun _ => .inr ⟨_, _, _, rfl, rfl, rfl, rfl⟩
theorem incZpx (z : Byte) : Statement (.incZpx z) :=
  fun _ => .inr ⟨_, _, _, rfl, rfl, rfl, rfl⟩
theorem sed : Statement .sed :=
  fun _ => .inr ⟨_, _, _, rfl, rfl, rfl, rfl⟩
theorem sbcAbsy (w : Word) : Statement (.sbcAbsy w) :=
  fun _ => .inr ⟨_, _, _, rfl, rfl, rfl, congrArg Instr.sbcAbsy (wordOf_hiByte_loByte w)⟩
theorem sbcAbsx (w : Word) : Statement (.sbcAbsx w) :=
  fun _ => .inr ⟨_, _, _, rfl, rfl, rfl, congrArg Instr.sbcAbsx (wordOf_hiByte_loByte w)⟩
theorem incAbsx (w : Word) : Statement (.incAbsx w) :=
  fun _ => .inr ⟨_, _, _, rfl, rfl, rfl, congrArg Instr.incAbsx (wordOf_hiByte_loByte w)⟩
theorem pseudoOp (t : Byte) : Statement (.pseudoOp t) := fun _ => .inl ⟨t, rfl, rfl⟩

end Sys2Proof.Laws.EncodesItsRow
end

