-- ==== Sys2Proof/Tests/Slice0.lean ====
section
/-! SUPPORT. Tests of the model: ill-formed terms that the checks refuse, the decoding of a word of every row of the
opcode table, the vectors of 95_test_vectors.md (each cited by its name), and for every obligation that has hypotheses
a witness that meets them. Every expected value is the spec's. -/

open Sys2Proof Sys2Proof.Machine

namespace Sys2Proof.Tests

/-- Cells written into a memory. -/
def withCells (m : Memory) (cells : List (Word × Byte)) : Memory := cells.foldl (fun m c => m.write c.1.toNat c.2) m

/-- The start state of a single-instruction vector: the reset state with bytes at 0x0600 as the code range and cells
elsewhere, in DebuggingPaused (95_test_vectors.md section 0). -/
def start (bytes : List Byte) (cells : List (Word × Byte)) : State :=
  { State.reset with
    mem := withCells (Memory.load [] 0x0600 bytes) cells, codeLen := bytes.length, codeValid := true
    runState := .debuggingPaused, debuggerEnabled := true }

/-- A, X, Y, SP, P. -/
def registers (s : State) : List Byte := [s.a, s.x, s.y, s.sp, s.p]

/-- The writes that the events of a state report, in order. -/
def writes (s : State) : List (Word × Byte) := s.events.filterMap Event.write

/-- The kinds of the events of a state, in order. -/
def kinds (s : State) : List EventKind := s.events.map Event.kind

/-- What a vector lists, after one host step: the result, A X Y SP P, pc, and the bytes written in order. -/
def outcome (s : State) : StepResult × List Byte × Word × List (Word × Byte) :=
  let t := (hostDo .step s).2
  (t.lastResult, registers t, t.pc, writes t)

/-- Host operations in order. -/
def after (acts : List HostAction) (s : State) : State := acts.foldl (fun t act => (hostDo act t).2) s

/-- The state after assembling a source text from the reset state. -/
def program (source : String) : State := (assemble source.toList State.reset).2

/-- The outcome of assembling a source text and the bytes assembled. -/
def assembled (source : String) : AsmOutcome × List Byte :=
  let r := assemble source.toList State.reset
  (r.1, (writes r.2).map Prod.snd)

/-- The kind and the line of a failed assembly. -/
def failure (source : String) : Option (AsmErrorKind × Nat) :=
  match (assemble source.toList State.reset).1 with
  | .failure e => some (e.kind, e.line)
  | _ => none

/-- Why the decoder refuses bytes. -/
def refusal (bytes : List Byte) : Option DecodeError :=
  match decode Params.standard bytes with
  | .ok _ => none
  | .error e => some e

/-! ## Ill-formed terms are refused -/

/-- R6: PSEUDO_OP must not be a documented opcode. -/
theorem test_wellFormed_refuses_documented_pseudoOp :
    wellFormed { Params.standard with pseudoOp := 0xA9 } (.pseudoOp 1) = false ∧
    Params.wellFormed { Params.standard with pseudoOp := 0x00 } = false ∧ Params.standard.wellFormed = true := by decide

/-- The canonical form of memory: an entry out of order, a repeated address, an entry that reads as an unlisted one, an
address above 0xFFFF. -/
theorem test_memory_wf_refuses :
    Memory.wf [(2, 1), (1, 1)] = false ∧ Memory.wf [(1, 1), (1, 2)] = false ∧ Memory.wf [(1, 0)] = false ∧
    Memory.wf [(65536, 1)] = false ∧ Memory.wf [(0, 1), (65535, 1)] = true := by decide

/-- The decoder refuses a byte outside the table, a cut instruction, and nothing at all (R96, R80). -/
theorem test_decode_refuses :
    [refusal [0x02, 0x00], refusal [0xAD, 0x00], refusal [], refusal [0xAD, 0x00, 0x02]] =
    [some (.illegalOpcode 0x02), some (.truncated 0xAD), some .noBytes, none] := by decide

/-! ## Decoding: a word of every row, written out from 30_encoding.md R97 and R98 -/

theorem test_decode_00 :
    decodeTableWord 8 0x00 = some .brk ∧ decodeTableWord 16 0x5A01 = some (.oraIndx 0x5A) ∧
    decodeTableWord 16 0x5A05 = some (.oraZp 0x5A) ∧ decodeTableWord 16 0x5A06 = some (.aslZp 0x5A) ∧
    decodeTableWord 8 0x08 = some .php ∧ decodeTableWord 16 0x5A09 = some (.oraImm 0x5A) ∧
    decodeTableWord 8 0x0A = some .aslAcc ∧ decodeTableWord 24 0xC35A0D = some (.oraAbs 0xC35A) ∧
    decodeTableWord 24 0xC35A0E = some (.aslAbs 0xC35A) := by decide

theorem test_decode_10 :
    decodeTableWord 16 0x5A10 = some (.bpl 0x5A) ∧ decodeTableWord 16 0x5A11 = some (.oraIndy 0x5A) ∧
    decodeTableWord 16 0x5A15 = some (.oraZpx 0x5A) ∧ decodeTableWord 16 0x5A16 = some (.aslZpx 0x5A) ∧
    decodeTableWord 8 0x18 = some .clc ∧ decodeTableWord 24 0xC35A19 = some (.oraAbsy 0xC35A) ∧
    decodeTableWord 24 0xC35A1D = some (.oraAbsx 0xC35A) ∧ decodeTableWord 24 0xC35A1E = some (.aslAbsx 0xC35A) := by decide

theorem test_decode_20 :
    decodeTableWord 24 0xC35A20 = some (.jsr 0xC35A) ∧ decodeTableWord 16 0x5A21 = some (.andIndx 0x5A) ∧
    decodeTableWord 16 0x5A24 = some (.bitZp 0x5A) ∧ decodeTableWord 16 0x5A25 = some (.andZp 0x5A) ∧
    decodeTableWord 16 0x5A26 = some (.rolZp 0x5A) ∧ decodeTableWord 8 0x28 = some .plp ∧
    decodeTableWord 16 0x5A29 = some (.andImm 0x5A) ∧ decodeTableWord 8 0x2A = some .rolAcc ∧
    decodeTableWord 24 0xC35A2C = some (.bitAbs 0xC35A) ∧ decodeTableWord 24 0xC35A2D = some (.andAbs 0xC35A) ∧
    decodeTableWord 24 0xC35A2E = some (.rolAbs 0xC35A) := by decide

theorem test_decode_30 :
    decodeTableWord 16 0x5A30 = some (.bmi 0x5A) ∧ decodeTableWord 16 0x5A31 = some (.andIndy 0x5A) ∧
    decodeTableWord 16 0x5A35 = some (.andZpx 0x5A) ∧ decodeTableWord 16 0x5A36 = some (.rolZpx 0x5A) ∧
    decodeTableWord 8 0x38 = some .sec ∧ decodeTableWord 24 0xC35A39 = some (.andAbsy 0xC35A) ∧
    decodeTableWord 24 0xC35A3D = some (.andAbsx 0xC35A) ∧ decodeTableWord 24 0xC35A3E = some (.rolAbsx 0xC35A) := by decide

theorem test_decode_40 :
    decodeTableWord 8 0x40 = some .rti ∧ decodeTableWord 16 0x5A41 = some (.eorIndx 0x5A) ∧
    decodeTableWord 16 0x5A45 = some (.eorZp 0x5A) ∧ decodeTableWord 16 0x5A46 = some (.lsrZp 0x5A) ∧
    decodeTableWord 8 0x48 = some .pha ∧ decodeTableWord 16 0x5A49 = some (.eorImm 0x5A) ∧
    decodeTableWord 8 0x4A = some .lsrAcc ∧ decodeTableWord 24 0xC35A4C = some (.jmpAbs 0xC35A) ∧
    decodeTableWord 24 0xC35A4D = some (.eorAbs 0xC35A) ∧ decodeTableWord 24 0xC35A4E = some (.lsrAbs 0xC35A) := by decide

theorem test_decode_50 :
    decodeTableWord 16 0x5A50 = some (.bvc 0x5A) ∧ decodeTableWord 16 0x5A51 = some (.eorIndy 0x5A) ∧
    decodeTableWord 16 0x5A55 = some (.eorZpx 0x5A) ∧ decodeTableWord 16 0x5A56 = some (.lsrZpx 0x5A) ∧
    decodeTableWord 8 0x58 = some .cli ∧ decodeTableWord 24 0xC35A59 = some (.eorAbsy 0xC35A) ∧
    decodeTableWord 24 0xC35A5D = some (.eorAbsx 0xC35A) ∧ decodeTableWord 24 0xC35A5E = some (.lsrAbsx 0xC35A) := by decide

theorem test_decode_60 :
    decodeTableWord 8 0x60 = some .rts ∧ decodeTableWord 16 0x5A61 = some (.adcIndx 0x5A) ∧
    decodeTableWord 16 0x5A65 = some (.adcZp 0x5A) ∧ decodeTableWord 16 0x5A66 = some (.rorZp 0x5A) ∧
    decodeTableWord 8 0x68 = some .pla ∧ decodeTableWord 16 0x5A69 = some (.adcImm 0x5A) ∧
    decodeTableWord 8 0x6A = some .rorAcc ∧ decodeTableWord 24 0xC35A6C = some (.jmpInd 0xC35A) ∧
    decodeTableWord 24 0xC35A6D = some (.adcAbs 0xC35A) ∧ decodeTableWord 24 0xC35A6E = some (.rorAbs 0xC35A) := by decide

theorem test_decode_70 :
    decodeTableWord 16 0x5A70 = some (.bvs 0x5A) ∧ decodeTableWord 16 0x5A71 = some (.adcIndy 0x5A) ∧
    decodeTableWord 16 0x5A75 = some (.adcZpx 0x5A) ∧ decodeTableWord 16 0x5A76 = some (.rorZpx 0x5A) ∧
    decodeTableWord 8 0x78 = some .sei ∧ decodeTableWord 24 0xC35A79 = some (.adcAbsy 0xC35A) ∧
    decodeTableWord 24 0xC35A7D = some (.adcAbsx 0xC35A) ∧ decodeTableWord 24 0xC35A7E = some (.rorAbsx 0xC35A) := by decide

theorem test_decode_80 :
    decodeTableWord 16 0x5A81 = some (.staIndx 0x5A) ∧ decodeTableWord 16 0x5A84 = some (.styZp 0x5A) ∧
    decodeTableWord 16 0x5A85 = some (.staZp 0x5A) ∧ decodeTableWord 16 0x5A86 = some (.stxZp 0x5A) ∧
    decodeTableWord 8 0x88 = some .dey ∧ decodeTableWord 8 0x8A = some .txa ∧
    decodeTableWord 24 0xC35A8C = some (.styAbs 0xC35A) ∧ decodeTableWord 24 0xC35A8D = some (.staAbs 0xC35A) ∧
    decodeTableWord 24 0xC35A8E = some (.stxAbs 0xC35A) := by decide

theorem test_decode_90 :
    decodeTableWord 16 0x5A90 = some (.bcc 0x5A) ∧ decodeTableWord 16 0x5A91 = some (.staIndy 0x5A) ∧
    decodeTableWord 16 0x5A94 = some (.styZpx 0x5A) ∧ decodeTableWord 16 0x5A95 = some (.staZpx 0x5A) ∧
    decodeTableWord 16 0x5A96 = some (.stxZpy 0x5A) ∧ decodeTableWord 8 0x98 = some .tya ∧
    decodeTableWord 24 0xC35A99 = some (.staAbsy 0xC35A) ∧ decodeTableWord 8 0x9A = some .txs ∧
    decodeTableWord 24 0xC35A9D = some (.staAbsx 0xC35A) := by decide

theorem test_decode_A0 :
    decodeTableWord 16 0x5AA0 = some (.ldyImm 0x5A) ∧ decodeTableWord 16 0x5AA1 = some (.ldaIndx 0x5A) ∧
    decodeTableWord 16 0x5AA2 = some (.ldxImm 0x5A) ∧ decodeTableWord 16 0x5AA4 = some (.ldyZp 0x5A) ∧
    decodeTableWord 16 0x5AA5 = some (.ldaZp 0x5A) ∧ decodeTableWord 16 0x5AA6 = some (.ldxZp 0x5A) ∧
    decodeTableWord 8 0xA8 = some .tay ∧ decodeTableWord 16 0x5AA9 = some (.ldaImm 0x5A) ∧
    decodeTableWord 8 0xAA = some .tax ∧ decodeTableWord 24 0xC35AAC = some (.ldyAbs 0xC35A) ∧
    decodeTableWord 24 0xC35AAD = some (.ldaAbs 0xC35A) ∧ decodeTableWord 24 0xC35AAE = some (.ldxAbs 0xC35A) := by decide

theorem test_decode_B0 :
    decodeTableWord 16 0x5AB0 = some (.bcs 0x5A) ∧ decodeTableWord 16 0x5AB1 = some (.ldaIndy 0x5A) ∧
    decodeTableWord 16 0x5AB4 = some (.ldyZpx 0x5A) ∧ decodeTableWord 16 0x5AB5 = some (.ldaZpx 0x5A) ∧
    decodeTableWord 16 0x5AB6 = some (.ldxZpy 0x5A) ∧ decodeTableWord 8 0xB8 = some .clv ∧
    decodeTableWord 24 0xC35AB9 = some (.ldaAbsy 0xC35A) ∧ decodeTableWord 8 0xBA = some .tsx ∧
    decodeTableWord 24 0xC35ABC = some (.ldyAbsx 0xC35A) ∧ decodeTableWord 24 0xC35ABD = some (.ldaAbsx 0xC35A) ∧
    decodeTableWord 24 0xC35ABE = some (.ldxAbsy 0xC35A) := by decide

theorem test_decode_C0 :
    decodeTableWord 16 0x5AC0 = some (.cpyImm 0x5A) ∧ decodeTableWord 16 0x5AC1 = some (.cmpIndx 0x5A) ∧
    decodeTableWord 16 0x5AC4 = some (.cpyZp 0x5A) ∧ decodeTableWord 16 0x5AC5 = some (.cmpZp 0x5A) ∧
    decodeTableWord 16 0x5AC6 = some (.decZp 0x5A) ∧ decodeTableWord 8 0xC8 = some .iny ∧
    decodeTableWord 16 0x5AC9 = some (.cmpImm 0x5A) ∧ decodeTableWord 8 0xCA = some .dex ∧
    decodeTableWord 24 0xC35ACC = some (.cpyAbs 0xC35A) ∧ decodeTableWord 24 0xC35ACD = some (.cmpAbs 0xC35A) ∧
    decodeTableWord 24 0xC35ACE = some (.decAbs 0xC35A) := by decide

theorem test_decode_D0 :
    decodeTableWord 16 0x5AD0 = some (.bne 0x5A) ∧ decodeTableWord 16 0x5AD1 = some (.cmpIndy 0x5A) ∧
    decodeTableWord 16 0x5AD5 = some (.cmpZpx 0x5A) ∧ decodeTableWord 16 0x5AD6 = some (.decZpx 0x5A) ∧
    decodeTableWord 8 0xD8 = some .cld ∧ decodeTableWord 24 0xC35AD9 = some (.cmpAbsy 0xC35A) ∧
    decodeTableWord 24 0xC35ADD = some (.cmpAbsx 0xC35A) ∧ decodeTableWord 24 0xC35ADE = some (.decAbsx 0xC35A) := by decide

theorem test_decode_E0 :
    decodeTableWord 16 0x5AE0 = some (.cpxImm 0x5A) ∧ decodeTableWord 16 0x5AE1 = some (.sbcIndx 0x5A) ∧
    decodeTableWord 16 0x5AE4 = some (.cpxZp 0x5A) ∧ decodeTableWord 16 0x5AE5 = some (.sbcZp 0x5A) ∧
    decodeTableWord 16 0x5AE6 = some (.incZp 0x5A) ∧ decodeTableWord 8 0xE8 = some .inx ∧
    decodeTableWord 16 0x5AE9 = some (.sbcImm 0x5A) ∧ decodeTableWord 8 0xEA = some .nop ∧
    decodeTableWord 24 0xC35AEC = some (.cpxAbs 0xC35A) ∧ decodeTableWord 24 0xC35AED = some (.sbcAbs 0xC35A) ∧
    decodeTableWord 24 0xC35AEE = some (.incAbs 0xC35A) := by decide

theorem test_decode_F0 :
    decodeTableWord 16 0x5AF0 = some (.beq 0x5A) ∧ decodeTableWord 16 0x5AF1 = some (.sbcIndy 0x5A) ∧
    decodeTableWord 16 0x5AF5 = some (.sbcZpx 0x5A) ∧ decodeTableWord 16 0x5AF6 = some (.incZpx 0x5A) ∧
    decodeTableWord 8 0xF8 = some .sed ∧ decodeTableWord 24 0xC35AF9 = some (.sbcAbsy 0xC35A) ∧
    decodeTableWord 24 0xC35AFD = some (.sbcAbsx 0xC35A) ∧ decodeTableWord 24 0xC35AFE = some (.incAbsx 0xC35A) ∧
    decodeTableWord 16 0x5AFF = some (.pseudoOp 0x5A) := by decide

/-! ## One step of every instruction family (95_test_vectors.md section 2.1) -/

/-- V-LS1, V-LS2: Z set, N cleared; N set. -/
theorem test_lda_imm :
    [outcome { start [0xA9, 0x00] [] with a := 0x55, p := 0xA0 },
     outcome (start [0xA9, 0x80] [])] =
    [(.executed, [0x00, 0x00, 0x00, 0xFF, 0x22], 0x0602, []),
     (.executed, [0x80, 0x00, 0x00, 0xFF, 0xA0], 0x0602, [])] := by decide

/-- V-LS3: zpx wraps in page 0. -/
theorem test_lda_zpx_wraps :
    outcome { start [0xB5, 0xF0] [(0x0010, 0x7E)] with x := 0x20 } =
      (.executed, [0x7E, 0x20, 0x00, 0xFF, 0x20], 0x0602, []) := by decide

/-- V-LS4: absx crosses a page. -/
theorem test_lda_absx_crosses_page :
    outcome { start [0xBD, 0xFF, 0x02] [(0x0300, 0x01)] with x := 0x01 } =
      (.executed, [0x01, 0x01, 0x00, 0xFF, 0x20], 0x0603, []) := by decide

/-- V-LS5: LDX zpy. -/
theorem test_ldx_zpy :
    outcome { start [0xB6, 0x10] [(0x0015, 0xFF)] with y := 0x05 } =
      (.executed, [0x00, 0xFF, 0x05, 0xFF, 0xA0], 0x0602, []) := by decide

/-- V-LS6: LDY absx. -/
theorem test_ldy_absx :
    outcome { start [0xBC, 0x00, 0x03] [(0x0302, 0x00)] with x := 0x02 } =
      (.executed, [0x00, 0x02, 0x00, 0xFF, 0x22], 0x0603, []) := by decide

/-- V-LS7: a store reports the value already stored and sets no flags. -/
theorem test_sta_abs_no_flags :
    outcome (start [0x8D, 0x00, 0x02] []) =
      (.executed, [0x00, 0x00, 0x00, 0xFF, 0x20], 0x0603, [(0x0200, 0x00)]) := by decide

/-- V-LS8: STA indx. -/
theorem test_sta_indx :
    outcome { start [0x81, 0x40] [(0x0042, 0x10), (0x0043, 0x03)] with a := 0x5A, x := 0x02 } =
      (.executed, [0x5A, 0x02, 0x00, 0xFF, 0x20], 0x0602, [(0x0310, 0x5A)]) := by decide

/-- V-LS9: zpy wraps in page 0. -/
theorem test_stx_zpy_wraps :
    outcome { start [0x96, 0xFF] [] with x := 0x77, y := 0x02 } =
      (.executed, [0x00, 0x77, 0x02, 0xFF, 0x20], 0x0602, [(0x0001, 0x77)]) := by decide

/-- V-LS10: STY abs. -/
theorem test_sty_abs :
    outcome { start [0x8C, 0x34, 0x12] [] with y := 0x99 } =
      (.executed, [0x00, 0x00, 0x99, 0xFF, 0x20], 0x0603, [(0x1234, 0x99)]) := by decide

/-- V-TR1, V-TR2, V-TR3, V-TR4, V-TR5, V-TR6: TAX, TAY, TXA, TYA, TSX, TXS. -/
theorem test_transfers :
    [outcome { start [0xAA] [] with x := 0x12 },
     outcome { start [0xA8] [] with a := 0x90 },
     outcome { start [0x8A] [] with x := 0x7F, p := 0xA0 },
     outcome { start [0x98] [] with a := 0x01 },
     outcome { start [0xBA] [] with sp := 0xFD },
     outcome (start [0x9A] [])] =
    [(.executed, [0x00, 0x00, 0x00, 0xFF, 0x22], 0x0601, []),
     (.executed, [0x90, 0x00, 0x90, 0xFF, 0xA0], 0x0601, []),
     (.executed, [0x7F, 0x7F, 0x00, 0xFF, 0x20], 0x0601, []),
     (.executed, [0x00, 0x00, 0x00, 0xFF, 0x22], 0x0601, []),
     (.executed, [0x00, 0xFD, 0x00, 0xFD, 0xA0], 0x0601, []),
     (.executed, [0x00, 0x00, 0x00, 0x00, 0x20], 0x0601, [])] := by decide

/-- V-ST1: PHA. -/
theorem test_pha :
    outcome { start [0x48] [] with a := 0x42 } =
      (.executed, [0x42, 0x00, 0x00, 0xFE, 0x20], 0x0601, [(0x01FF, 0x42)]) := by decide

/-- V-ST2: the image has B and U set, P itself is unchanged. -/
theorem test_php_image :
    outcome { start [0x08] [] with p := 0xE3 } =
      (.executed, [0x00, 0x00, 0x00, 0xFE, 0xE3], 0x0601, [(0x01FF, 0xF3)]) := by decide

/-- V-ST3: PLA sets Z. -/
theorem test_pla :
    outcome { start [0x68] [(0x01FF, 0x00)] with sp := 0xFE } =
      (.executed, [0x00, 0x00, 0x00, 0xFF, 0x22], 0x0601, []) := by decide

/-- V-ST4, V-ST5: B is dropped, U is 1. -/
theorem test_plp :
    [outcome { start [0x28] [(0x01FF, 0xFF)] with sp := 0xFE },
     outcome { start [0x28] [(0x01FF, 0x00)] with sp := 0xFE, p := 0xEF }] =
    [(.executed, [0x00, 0x00, 0x00, 0xFF, 0xEF], 0x0601, []),
     (.executed, [0x00, 0x00, 0x00, 0xFF, 0x20], 0x0601, [])] := by decide

/-- V-ST6: PHA at SP = 0x00. -/
theorem test_pha_wraps :
    outcome { start [0x48] [] with a := 0x11, sp := 0x00 } =
      (.executed, [0x11, 0x00, 0x00, 0xFF, 0x20], 0x0601, [(0x0100, 0x11)]) := by decide

/-- V-ST7: PLA at SP = 0xFF. -/
theorem test_pla_wraps :
    outcome (start [0x68] [(0x0100, 0x80)]) =
      (.executed, [0x80, 0x00, 0x00, 0x00, 0xA0], 0x0601, []) := by decide

/-- V-AR1, V-AR2, V-AR3, V-AR4: overflow, carry out, carry in, two negatives (S1 is the first). -/
theorem test_adc_imm :
    [outcome { start [0x69, 0x01] [] with a := 0x7F },
     outcome { start [0x69, 0x01] [] with a := 0xFF },
     outcome { start [0x69, 0x00] [] with p := 0x21 },
     outcome { start [0x69, 0x80] [] with a := 0x80 }] =
    [(.executed, [0x80, 0x00, 0x00, 0xFF, 0xE0], 0x0602, []),
     (.executed, [0x00, 0x00, 0x00, 0xFF, 0x23], 0x0602, []),
     (.executed, [0x01, 0x00, 0x00, 0xFF, 0x20], 0x0602, []),
     (.executed, [0x00, 0x00, 0x00, 0xFF, 0x63], 0x0602, [])] := by decide

/-- V-AR5, V-AR6, V-AR7, V-AR8: no borrow, borrow, signed overflow, borrow in. -/
theorem test_sbc_imm :
    [outcome { start [0xE9, 0x01] [] with a := 0x05, p := 0x21 },
     outcome { start [0xE9, 0x01] [] with p := 0x21 },
     outcome { start [0xE9, 0x01] [] with a := 0x80, p := 0x21 },
     outcome { start [0xE9, 0x01] [] with a := 0x05 }] =
    [(.executed, [0x04, 0x00, 0x00, 0xFF, 0x21], 0x0602, []),
     (.executed, [0xFF, 0x00, 0x00, 0xFF, 0xA0], 0x0602, []),
     (.executed, [0x7F, 0x00, 0x00, 0xFF, 0x61], 0x0602, []),
     (.executed, [0x03, 0x00, 0x00, 0xFF, 0x21], 0x0602, [])] := by decide

/-- V-AR9: ADC under D = 1 changes nothing but the mark. -/
theorem test_adc_decimal_refused :
    outcome { start [0x69, 0x01] [] with a := 0x09, p := 0x28 } =
      (.refused .decimalMode, [0x09, 0x00, 0x00, 0xFF, 0x28], 0x0600, []) := by decide

/-- V-AR10, V-AR11, V-AR12: equal, less, greater. -/
theorem test_cmp_imm :
    [outcome { start [0xC9, 0x40] [] with a := 0x40 },
     outcome { start [0xC9, 0x41] [] with a := 0x40 },
     outcome { start [0xC9, 0x01] [] with a := 0xFF }] =
    [(.executed, [0x40, 0x00, 0x00, 0xFF, 0x23], 0x0602, []),
     (.executed, [0x40, 0x00, 0x00, 0xFF, 0xA0], 0x0602, []),
     (.executed, [0xFF, 0x00, 0x00, 0xFF, 0xA1], 0x0602, [])] := by decide

/-- V-AR13, V-AR14: CPX and CPY. -/
theorem test_cpx_cpy :
    [outcome { start [0xE0, 0x05] [] with x := 0x06 },
     outcome (start [0xC0, 0x10] [])] =
    [(.executed, [0x00, 0x06, 0x00, 0xFF, 0x21], 0x0602, []),
     (.executed, [0x00, 0x00, 0x00, 0xFF, 0xA0], 0x0602, [])] := by decide

/-- V-AR15, V-AR16: INC zp to 0x00, DEC abs to 0xFF, one write each. -/
theorem test_inc_dec_memory :
    [outcome (start [0xE6, 0x10] [(0x0010, 0xFF)]),
     outcome (start [0xCE, 0x00, 0x02] [(0x0200, 0x00)])] =
    [(.executed, [0x00, 0x00, 0x00, 0xFF, 0x22], 0x0602, [(0x0010, 0x00)]),
     (.executed, [0x00, 0x00, 0x00, 0xFF, 0xA0], 0x0603, [(0x0200, 0xFF)])] := by decide

/-- V-AR17, V-AR18, V-AR19, V-AR20: the index registers wrap. -/
theorem test_inx_iny_dex_dey :
    [outcome { start [0xE8] [] with x := 0x7F },
     outcome { start [0xC8] [] with y := 0xFF },
     outcome (start [0xCA] []),
     outcome { start [0x88] [] with y := 0x01 }] =
    [(.executed, [0x00, 0x80, 0x00, 0xFF, 0xA0], 0x0601, []),
     (.executed, [0x00, 0x00, 0x00, 0xFF, 0x22], 0x0601, []),
     (.executed, [0x00, 0xFF, 0x00, 0xFF, 0xA0], 0x0601, []),
     (.executed, [0x00, 0x00, 0x00, 0xFF, 0x22], 0x0601, [])] := by decide

/-- V-LG1, V-LG2, V-LG3: AND, ORA, EOR. -/
theorem test_and_ora_eor :
    [outcome { start [0x29, 0x0F] [] with a := 0xF0 },
     outcome { start [0x09, 0x80] [] with a := 0x01 },
     outcome { start [0x49, 0xFF] [] with a := 0xFF }] =
    [(.executed, [0x00, 0x00, 0x00, 0xFF, 0x22], 0x0602, []),
     (.executed, [0x81, 0x00, 0x00, 0xFF, 0xA0], 0x0602, []),
     (.executed, [0x00, 0x00, 0x00, 0xFF, 0x22], 0x0602, [])] := by decide

/-- V-LG4, V-LG5: N and V from memory, Z from A and memory. -/
theorem test_bit :
    [outcome { start [0x24, 0x10] [(0x0010, 0xC0)] with a := 0x01 },
     outcome { start [0x2C, 0x00, 0x02] [(0x0200, 0x01)] with a := 0xFF, p := 0xE0 }] =
    [(.executed, [0x01, 0x00, 0x00, 0xFF, 0xE2], 0x0602, []),
     (.executed, [0xFF, 0x00, 0x00, 0xFF, 0x20], 0x0603, [])] := by decide

/-- V-SH1, V-SH2, V-SH3, V-SH4: ASL, LSR, ROL, ROR. -/
theorem test_shifts :
    [outcome { start [0x0A] [] with a := 0x81 },
     outcome (start [0x46, 0x10] [(0x0010, 0x01)]),
     outcome { start [0x2A] [] with a := 0x80, p := 0x21 },
     outcome { start [0x6A] [] with a := 0x01, p := 0x21 }] =
    [(.executed, [0x02, 0x00, 0x00, 0xFF, 0x21], 0x0601, []),
     (.executed, [0x00, 0x00, 0x00, 0xFF, 0x23], 0x0602, [(0x0010, 0x00)]),
     (.executed, [0x01, 0x00, 0x00, 0xFF, 0x21], 0x0601, []),
     (.executed, [0x80, 0x00, 0x00, 0xFF, 0xA1], 0x0601, [])] := by decide

/-- V-SH5: ROR absx. -/
theorem test_ror_absx :
    outcome { start [0x7E, 0x00, 0x02] [(0x0201, 0x02)] with x := 0x01 } =
      (.executed, [0x00, 0x01, 0x00, 0xFF, 0x20], 0x0603, [(0x0201, 0x01)]) := by decide

/-- V-CT1: JMP abs. -/
theorem test_jmp_abs :
    outcome (start [0x4C, 0x34, 0x12] []) =
      (.executed, [0x00, 0x00, 0x00, 0xFF, 0x20], 0x1234, []) := by decide

/-- V-CT2, V-CT3: the page rule, and without it. -/
theorem test_jmp_ind :
    [outcome (start [0x6C, 0xFF, 0x02] [(0x02FF, 0x00), (0x0200, 0x07), (0x0300, 0x08)]),
     outcome { start [0x6C, 0xFF, 0x02] [(0x02FF, 0x00), (0x0200, 0x07), (0x0300, 0x08)] with params := { Params.standard with jmpIndPageWrap := false } }] =
    [(.executed, [0x00, 0x00, 0x00, 0xFF, 0x20], 0x0700, []),
     (.executed, [0x00, 0x00, 0x00, 0xFF, 0x20], 0x0800, [])] := by decide

/-- V-CT4, V-CT5: JSR pushes pc + 2 high byte first, RTS adds 1. -/
theorem test_jsr_rts :
    [outcome (start [0x20, 0x00, 0x07] []),
     outcome { start [0x60] [(0x01FE, 0x02), (0x01FF, 0x06)] with sp := 0xFD }] =
    [(.executed, [0x00, 0x00, 0x00, 0xFD, 0x20], 0x0700, [(0x01FF, 0x06), (0x01FE, 0x02)]),
     (.executed, [0x00, 0x00, 0x00, 0xFF, 0x20], 0x0603, [])] := by decide

/-- V-CT6, V-CT7, V-CT8, V-CT9: taken, not taken, the two extremes. -/
theorem test_branches_distance :
    [outcome (start [0xD0, 0xFE] []),
     outcome (start [0xF0, 0x10] []),
     outcome (start [0x90, 0x7F] []),
     outcome { start [0xB0, 0x80] [] with p := 0x21 }] =
    [(.executed, [0x00, 0x00, 0x00, 0xFF, 0x20], 0x0600, []),
     (.executed, [0x00, 0x00, 0x00, 0xFF, 0x20], 0x0602, []),
     (.executed, [0x00, 0x00, 0x00, 0xFF, 0x20], 0x0681, []),
     (.executed, [0x00, 0x00, 0x00, 0xFF, 0x21], 0x0582, [])] := by decide

/-- V-CT10, V-CT11, V-CT12, V-CT13: BPL, BMI, BVC, BVS. -/
theorem test_branches_condition :
    [outcome (start [0x10, 0x04] []),
     outcome { start [0x30, 0x04] [] with p := 0xA0 },
     outcome { start [0x50, 0x04] [] with p := 0x60 },
     outcome { start [0x70, 0x04] [] with p := 0x60 }] =
    [(.executed, [0x00, 0x00, 0x00, 0xFF, 0x20], 0x0606, []),
     (.executed, [0x00, 0x00, 0x00, 0xFF, 0xA0], 0x0606, []),
     (.executed, [0x00, 0x00, 0x00, 0xFF, 0x60], 0x0602, []),
     (.executed, [0x00, 0x00, 0x00, 0xFF, 0x60], 0x0606, [])] := by decide

/-- V-FS1, V-FS2, V-FS3, V-FS4: CLC, SEC, CLI, SEI. -/
theorem test_carry_and_interrupt_flags :
    [outcome { start [0x18] [] with p := 0xEF },
     outcome (start [0x38] []),
     outcome { start [0x58] [] with p := 0x24 },
     outcome (start [0x78] [])] =
    [(.executed, [0x00, 0x00, 0x00, 0xFF, 0xEE], 0x0601, []),
     (.executed, [0x00, 0x00, 0x00, 0xFF, 0x21], 0x0601, []),
     (.executed, [0x00, 0x00, 0x00, 0xFF, 0x20], 0x0601, []),
     (.executed, [0x00, 0x00, 0x00, 0xFF, 0x24], 0x0601, [])] := by decide

/-- V-FS5, V-FS6, V-FS7, V-FS8: CLD, SED, CLV, NOP. -/
theorem test_decimal_and_overflow_flags :
    [outcome { start [0xD8] [] with p := 0x28 },
     outcome (start [0xF8] []),
     outcome { start [0xB8] [] with p := 0x60 },
     outcome (start [0xEA] [])] =
    [(.executed, [0x00, 0x00, 0x00, 0xFF, 0x20], 0x0601, []),
     (.executed, [0x00, 0x00, 0x00, 0xFF, 0x28], 0x0601, []),
     (.executed, [0x00, 0x00, 0x00, 0xFF, 0x20], 0x0601, []),
     (.executed, [0x00, 0x00, 0x00, 0xFF, 0x20], 0x0601, [])] := by decide

/-- V-FS9: BRK halts, nothing pushed. -/
theorem test_brk_halts :
    outcome { start [0x00] [] with a := 0x12 } =
      (.halted true, [0x12, 0x00, 0x00, 0xFF, 0x20], 0x0601, []) := by decide

/-- V-FS10: RTI adds nothing to pc. -/
theorem test_rti :
    outcome { start [0x40] [(0x01FD, 0x01), (0x01FE, 0x10), (0x01FF, 0x06)] with sp := 0xFC } =
      (.executed, [0x00, 0x00, 0x00, 0xFF, 0x21], 0x0610, []) := by decide

/-- V-FS11, V-FS12: the pseudo-op, and a halting type. -/
theorem test_pseudo_op :
    [outcome (start [0xFF, 0x01] []),
     outcome { start [0xFF, 0x02] [] with params := { Params.standard with pseudoOpHalts := [2] } }] =
    [(.executed, [0x00, 0x00, 0x00, 0xFF, 0x20], 0x0602, []),
     (.halted true, [0x00, 0x00, 0x00, 0xFF, 0x20], 0x0602, [])] := by decide

/-- V-AD1, V-AD2: the pointer at 0xFF, and without the wrap. -/
theorem test_zero_page_pointer_wraps :
    [outcome { start [0xA1, 0xFE] [(0x00FF, 0x00), (0x0000, 0x03), (0x0100, 0x04), (0x0300, 0x11), (0x0400, 0x22)] with x := 0x01 },
     outcome { start [0xA1, 0xFE] [(0x00FF, 0x00), (0x0000, 0x03), (0x0100, 0x04), (0x0300, 0x11), (0x0400, 0x22)] with x := 0x01, params := { Params.standard with zpPointerWrap := false } }] =
    [(.executed, [0x11, 0x01, 0x00, 0xFF, 0x20], 0x0602, []),
     (.executed, [0x22, 0x01, 0x00, 0xFF, 0x20], 0x0602, [])] := by decide

/-- V-AD3, V-AD4: indy crosses a page, absy wraps. -/
theorem test_indy_and_absy :
    [outcome { start [0xB1, 0x20] [(0x0020, 0xF8), (0x0021, 0x02), (0x0308, 0x33)] with y := 0x10 },
     outcome { start [0xB9, 0xFF, 0xFF] [(0x0001, 0x44)] with y := 0x02 }] =
    [(.executed, [0x33, 0x00, 0x10, 0xFF, 0x20], 0x0602, []),
     (.executed, [0x44, 0x00, 0x02, 0xFF, 0x20], 0x0603, [])] := by decide

/-- V-FL1: an undocumented byte changes no register. -/
theorem test_illegal_opcode :
    outcome (start [0x02] []) =
      (.faulted .illegalOpcode, [0x00, 0x00, 0x00, 0xFF, 0x20], 0x0600, []) := by decide

/-- V-FL2: pc outside the code range. -/
theorem test_code_range_halt :
    outcome { start [0xEA] [] with pc := 0x0601 } =
      (.halted false, [0x00, 0x00, 0x00, 0xFF, 0x20], 0x0601, []) := by decide

/-- V-FL3: PSEUDO_OP is decoded first, its type read outside the code range. -/
theorem test_pseudo_op_before_illegal :
    outcome { start [0x02] [] with params := { Params.standard with pseudoOp := 0x02 } } =
      (.executed, [0x00, 0x00, 0x00, 0xFF, 0x20], 0x0602, []) := by decide

/-! ## Faults, refusals, warnings: what the tuples above leave out -/

/-- V-FL1: the fault record, Stopped, one simulator-failure; a second step is Rejected. -/
theorem test_illegal_opcode_record :
    let t := (hostDo .step (start [0x02] [])).2
    t.fault = some ⟨.illegalOpcode, 0x0600, 0x02⟩ ∧ t.runState = .stopped ∧ kinds t = [.simulatorFailure, .step] ∧
    (hostDo .step t).1 = .rejected := by decide

/-- V-AR9: the mark, no event of the core step, and NoStep at the second step. -/
theorem test_decimal_refusal_record :
    let t := (hostDo .step { start [0x69, 0x01] [] with a := 0x09, p := 0x28 }).2
    t.refused = some ⟨.decimalMode, 0x0600⟩ ∧ t.runState = .debuggingPaused ∧ kinds t = [.step] ∧
    (hostDo .step t).1 = .stepped .noStep := by decide

/-- V-ST6, V-FS12, V-FL2: one warning; pseudo-op, then the halt; the halt at the code range. -/
theorem test_event_kinds :
    kinds (hostDo .step { start [0x48] [] with a := 0x11, sp := 0x00 }).2 = [.changed, .simulatorInfo, .step] ∧
    kinds (hostDo .step { start [0xFF, 0x02] [] with params := { Params.standard with pseudoOpHalts := [2] } }).2 =
      [.pseudoOp, .simulatorInfo, .step] ∧
    (hostDo .step { start [0xEA] [] with pc := 0x0601 }).2.runState = .completed := by decide

/-- The stack-wrap warnings among the events of a state: their place, what they carry, and their snapshot. -/
def wraps (s : State) : List (Nat × Word × Byte × Snapshot) :=
  s.events.zipIdx.filterMap (fun e =>
    match e.1 with
    | .engine (.simulatorInfo (.stackOverflow pc sp)) r _ => some (e.2, pc, sp, r)
    | _ => none)

/-- 00_scope.md R11, R322, R250, R251: JSR at SP = 0x00 wraps at its first push and at 0x01 at its second; the warning
stands right behind that push's changed event, with the SP before the wrap. -/
theorem test_jsr_warning_place :
    let at_ := fun sp => (hostDo .step { start [0x20, 0x00, 0x07] [] with sp := sp }).2
    wraps (at_ 0x00) = [(1, 0x0600, 0x00, ⟨0x00, 0x00, 0x00, 0x00, 0x0600, 0x20⟩)] ∧
    kinds (at_ 0x00) = [.changed, .simulatorInfo, .changed, .step] ∧
    wraps (at_ 0x01) = [(2, 0x0600, 0x00, ⟨0x00, 0x00, 0x00, 0x00, 0x0600, 0x20⟩)] ∧
    wraps (at_ 0x02) = [] := by decide

/-- R229, R322: RTI at SP = 0xFF warns before P is loaded, and at 0xFE after. -/
theorem test_rti_warning_snapshot :
    wraps (hostDo .step { start [0x40] [(0x0100, 0xC3)] with sp := 0xFF }).2 =
      [(0, 0x0600, 0xFF, ⟨0x00, 0x00, 0x00, 0xFF, 0x0600, 0x20⟩)] ∧
    wraps (hostDo .step { start [0x40] [(0x01FF, 0xC3)] with sp := 0xFE }).2 =
      [(0, 0x0600, 0xFF, ⟨0x00, 0x00, 0x00, 0xFF, 0x0600, 0xE3⟩)] := by decide

/-- A row's word, placed where the step fetches, runs as the first instruction after reset (`A9 80`, V-LS2;
`20 00 07`, V-CT4). -/
theorem test_withFetchWord_runs :
    registers (afterStep (State.reset.withFetchWord 16 0x80A9)) = [0x80, 0x00, 0x00, 0xFF, 0xA0] ∧
    (afterStep (State.reset.withFetchWord 24 0x070020)).pc = 0x0700 := by decide

/-! ## The assembler (95_test_vectors.md section 2.2, S2, S3) -/

/-- S2: the forward reference, its bytes and its events. -/
theorem test_S2_forward_reference :
    assembled "JMP forward\nforward: BRK" = (.success 4, [0x4C, 0x03, 0x06, 0x00]) ∧
    (program "JMP forward\nforward: BRK").runState = .ready ∧
    kinds (program "JMP forward\nforward: BRK") =
      [.labelsInfo, .changed, .changed, .changed, .changed, .assembleSuccess] := by decide

/-- S3: the duplicate label; labels are case-sensitive. -/
theorem test_S3_duplicate_label :
    (assemble "loop: NOP\nloop: NOP".toList State.reset).1 = .failure ⟨.duplicateLabel, 2, "loop: NOP".toList⟩ ∧
    kinds (program "loop: NOP\nloop: NOP") = [.labelsFailure, .assembleFailure] ∧
    (hostDo .run (program "loop: NOP\nloop: NOP")).1 = .rejected ∧
    (program "Loop: NOP\nloop: NOP").symbols = [("Loop".toList, 0x0600), ("loop".toList, 0x0601)] := by decide

/-- V-AS1, V-AS2, V-AS12 to V-AS14: the mode chosen. -/
theorem test_mode_choice :
    assembled "LDA $10,Y" = (.success 3, [0xB9, 0x10, 0x00]) ∧ assembled "LDX $10,Y" = (.success 2, [0xB6, 0x10]) ∧
    assembled "JMP $10" = (.success 3, [0x4C, 0x10, 0x00]) ∧ assembled "LDA $0010" = (.success 3, [0xAD, 0x10, 0x00]) ∧
    assembled "JMP ($10)" = (.success 3, [0x6C, 0x10, 0x00]) := by decide

/-- V-AS7, V-AS10, V-AS15, V-AS20: literals, case, white space, comments and blank lines. -/
theorem test_assembler_text :
    assembled "LDA #255" = (.success 2, [0xA9, 0xFF]) ∧ assembled "lda #$0a" = (.success 2, [0xA9, 0x0A]) ∧
    assembled "LDA  ( $20 ) , y" = (.success 2, [0xB1, 0x20]) ∧
    assembled "  lda #$01 ; comment\r\n\r\n; only comment\n" = (.success 2, [0xA9, 0x01]) := by decide

/-- V-AS19: the accumulator's three spellings. -/
theorem test_accumulator_spellings :
    assembled "ASL" = (.success 1, [0x0A]) ∧ assembled "ASL A" = (.success 1, [0x0A]) ∧
    assembled "ASL a" = (.success 1, [0x0A]) := by decide

/-- V-AS3 to V-AS6, V-AS16, V-AS18: forms that no mode takes, an unknown mnemonic. -/
theorem test_invalid_forms :
    failure "STX $1000,Y" = some (.invalidAddressingMode, 1) ∧
    failure "STX lab,Y\nlab: NOP" = some (.invalidAddressingMode, 1) ∧
    failure "INC $10,Y" = some (.invalidAddressingMode, 1) ∧ failure "FOO #1" = some (.unknownMnemonic, 1) ∧
    failure "LDA (ptr),Y\nptr: NOP" = some (.invalidAddressingMode, 1) ∧
    failure "LDA" = some (.invalidAddressingMode, 1) := by decide

/-- V-AS8, V-AS9, V-AS11, V-AS17: literals out of range. -/
theorem test_out_of_range :
    failure "LDA #256" = some (.operandOutOfRange, 1) ∧ failure "LDA #$100" = some (.operandOutOfRange, 1) ∧
    failure "LDA $10000" = some (.operandOutOfRange, 1) ∧ failure "LDA ($120,X)" = some (.operandOutOfRange, 1) := by
  decide

/-- V-AS23 to V-AS25: reserved names, and one label a line. -/
theorem test_label_errors :
    failure "X: NOP" = some (.labelShadowsSymbol, 1) ∧ kinds (program "X: NOP") = [.labelsFailure, .assembleFailure] ∧
    failure "lda: NOP" = some (.labelShadowsSymbol, 1) ∧ failure "p: q: NOP" = some (.unknownMnemonic, 1) := by decide

/-- V-AS26 to V-AS30: the branch displacement at its limits and beyond, and a backward reference. -/
theorem test_branch_range :
    assembled "BNE $0582" = (.success 2, [0xD0, 0x80]) ∧ failure "BNE $0581" = some (.operandOutOfRange, 1) ∧
    assembled "BNE $0681" = (.success 2, [0xD0, 0x7F]) ∧ failure "BNE $0682" = some (.operandOutOfRange, 1) ∧
    assembled "back: NOP\nBEQ back" = (.success 3, [0xEA, 0xF0, 0xFD]) := by decide

/-- V-AS22, V-AS31 to V-AS33: which error comes first. -/
theorem test_error_precedence :
    failure "BNE nowhere" = some (.undefinedLabel, 1) ∧ failure "FOO nowhere" = some (.unknownMnemonic, 1) ∧
    failure "LDA nowhere,Y" = some (.undefinedLabel, 1) ∧ failure "STX nowhere,Y" = some (.invalidAddressingMode, 1) := by
  decide

/-- V-AS21: the empty source is a program of length 0, which halts at once. -/
theorem test_empty_source :
    assembled "" = (.success 0, []) ∧ kinds (program "") = [.labelsInfo, .assembleSuccess] ∧
    (run [.mk 7 [] []] (program "")).2.runState = .completed ∧
    (run [.mk 7 [] []] (program "")).2.lastResult = .halted false := by decide

/-- V-AS34: a failure of pass 2 rolls no memory back. -/
theorem test_failure_keeps_memory :
    let r := assemble "LDA #1\nLDA #300".toList State.reset
    r.1 = .failure ⟨.operandOutOfRange, 2, "LDA #300".toList⟩ ∧ r.2.peek 0x0600 = 0xA9 ∧ r.2.peek 0x0601 = 0x01 ∧
    r.2.codeLen = 0 ∧ (hostDo .run r.2).1 = .rejected := by decide

/-- V-AS35 to V-AS37: the origin near the top of memory and at 0x0000. -/
theorem test_origins :
    let from_ := fun origin source =>
      (assemble (String.toList source) (State.construct { Params.standard with origin := origin }))
    (from_ 0xFFFE "JMP $0000").1 = .failure ⟨.operandOutOfRange, 1, "JMP $0000".toList⟩ ∧
    (from_ 0xFFFF "NOP").1 = .success 1 ∧ writes (from_ 0xFFFF "NOP").2 = [(0xFFFF, 0xEA)] ∧
    writes (from_ 0x0000 "LDA data\ndata: BRK").2 = [(0, 0xAD), (1, 0x03), (2, 0x00), (3, 0x00)] := by decide

/-! ## The disassembler and the hex dump (section 2.3, S4) -/

/-- The address, the bytes and the full string of records. -/
def shown (rs : List DisasmRecord) : List (Nat × List Byte × String) :=
  rs.map (fun r => (r.address, r.bytes, String.ofList r.fullText))

/-- S4, V-DS1, the first five lines of its program. -/
theorem test_S4_round_trip :
    let t := program "start: LDA #$01\nSTA $0200\nBNE start\nJMP start\nJMP ($02FF)"
    shown (t.disassembly 0x0600 0x060D) =
      [(0x0600, [0xA9, 0x01], "LDA #$01"), (0x0602, [0x8D, 0x00, 0x02], "STA $0200"),
       (0x0605, [0xD0, 0xF9], "BNE start"), (0x0607, [0x4C, 0x00, 0x06], "JMP start"),
       (0x060A, [0x6C, 0xFF, 0x02], "JMP ($02FF)")] := by decide

/-- S4, V-DS1, the other five. -/
theorem test_S4_round_trip_modes :
    let t := program "LDA ($20),Y\nLDA ($20,X)\nASL\nLDX $10,Y\nBRK"
    shown (t.disassembly 0x0600 0x0608) =
      [(0x0600, [0xB1, 0x20], "LDA ($20),Y"), (0x0602, [0xA1, 0x20], "LDA ($20,X)"), (0x0604, [0x0A], "ASL A"),
       (0x0605, [0xB6, 0x10], "LDX $10,Y"), (0x0607, [0x00], "BRK")] := by decide

/-- V-DS2, V-DS3: the pseudo-op's record, the unknown byte that ends the walk, an operand read at the end. -/
theorem test_disassembly_ends :
    shown ((start [0xA9, 0x01, 0xFF, 0x07, 0x02, 0xEA] []).disassembly 0x0600 0x0606) =
      [(0x0600, [0xA9, 0x01], "LDA #$01"), (0x0602, [0xFF, 0x07], "PSEUDO $07"), (0x0604, [0x02], ".byte $02")] ∧
    shown ((start [0xA9] []).disassembly 0x0600 0x0601) = [(0x0600, [0xA9, 0x00], "LDA #$00")] := by decide

/-- V-DS4 to V-DS7: a second row, no byte, the wrap at 0xFFFF, two bytes. -/
theorem test_hexdump :
    (start ((List.range 18).map (fun k => BitVec.ofNat 8 (0xA0 + k))) []).hexText 0x0600 18 =
      "0600: A0 A1 A2 A3 A4 A5 A6 A7 A8 A9 AA AB AC AD AE AF\n0610: B0 B1".toList ∧
    State.reset.hexText 0x0600 0 = [] ∧ State.reset.hexText 0xFFFE 4 = "FFFE: 00 00 00 00".toList ∧
    (start [0xA9, 0x01] []).hexText 0x0600 2 = "0600: A9 01".toList := by decide

/-! ## Host operations (section 2.4, S5 to S7) -/

/-- S5: the second reset leaves the registers as the first left them, and memory as it is. -/
theorem test_S5_reset_twice :
    let t := start [0xA9, 0x42] [(0x01FF, 0x42)]
    let u := after [.reset] { t with a := 0x42, sp := 0xFE, p := 0x21, pc := 0x0605, runState := .completed }
    let v := after [.reset] u
    registers u = [0x00, 0x00, 0x00, 0xFF, 0x20] ∧ registers v = registers u ∧ u.pc = 0x0600 ∧ v.pc = 0x0600 ∧
    u.runState = .ready ∧ v.runState = .ready ∧ v.peek 0x01FF = 0x42 ∧ v.peek 0x0600 = 0xA9 ∧
    kinds v = [.reset, .reset] := by decide

/-- S6, `loop: JMP loop`: the budget, the budget 0, and a stop request. -/
theorem test_S6_budget :
    let t := { start [0x4C, 0x00, 0x06] [] with runState := .running, debuggerEnabled := false }
    (hostDo (.multiStep [] 5) t).1 = .count 5 ∧ (hostDo (.multiStep [] 5) t).2.pc = 0x0600 ∧
    (hostDo (.multiStep [] 0) t).1 = .count 0 ∧ kinds (hostDo (.multiStep [] 0) t).2 = [.multistep] ∧
    (hostDo (.multiStep [] 5) (after [.stop] t)).1 = .count 0 := by decide

/-- S6: three batches, the host's stop() after the third, and the boundary; BRK counts. -/
theorem test_S6_stop_after_batches :
    let t := { start [0x4C, 0x00, 0x06] [] with runState := .ready, debuggerEnabled := false }
    let u := (run [.mk 2 [] [], .mk 2 [] [], .mk 2 [] [.stop]] t).2
    kinds u = [.start, .multistep, .multistep, .multistep, .stop] ∧ u.runState = .stopped ∧ u.pc = 0x0600 ∧
    u.stopRequested = false ∧
    (hostDo (.multiStep [] 10) { start [0xEA, 0x00] [] with runState := .running }).1 = .count 2 := by decide

/-- S7: 300 is stored as 44 with one event, and so is 44 again. -/
theorem test_S7_write_masking :
    (State.reset.memSet 0x0200 300).peek 0x0200 = 44 ∧ writes (State.reset.memSet 0x0200 300) = [(0x0200, 44)] ∧
    writes ((State.reset.memSet 0x0200 300).memSet 0x0200 44) = [(0x0200, 44), (0x0200, 44)] := by decide

/-- V-HO1, V-HO2: run() with no program. -/
theorem test_run_without_program :
    hostDo .run State.reset = (.rejected, State.reset) ∧
    (after [.reset] (assemble "FOO".toList (program "NOP")).2).runState = .initialized ∧
    (hostDo .run (after [.reset] (assemble "FOO".toList (program "NOP")).2)).1 = .rejected := by decide

/-- V-HO3, V-HO4, V-HO12, V-HO13, V-AS39: goto, reset, stop and assemble by state. -/
theorem test_preconditions :
    let t := { start [0xEA, 0xEA, 0x00] [] with runState := .ready }
    let u := { t with runState := .running }
    (after [.goto 0x0602] t).pc = 0x0602 ∧ (after [.goto 0x0602] t).runState = .ready ∧
    kinds (after [.goto 0x0602] t) = [.goto] ∧ hostDo (.goto 0x0600) u = (.rejected, u) ∧
    hostDo .reset u = (.rejected, u) ∧ after [.stop] t = t ∧ hostDo (.assemble []) u = (.rejected, u) := by decide

/-- V-HO5: the debugger steps through a program to its end. -/
theorem test_debugger_steps :
    let t := after [.enableDebugger] (program "LDA #1\nBRK")
    let u := after [.step] t
    let v := after [.step] u
    t.runState = .debuggingPaused ∧ t.pc = 0x0600 ∧ u.lastResult = .executed ∧ u.a = 0x01 ∧ u.pc = 0x0602 ∧
    u.runState = .debuggingPaused ∧ v.lastResult = .halted true ∧ v.pc = 0x0603 ∧ v.runState = .completed ∧
    (hostDo .step v).1 = .rejected := by decide

/-- P1's loop with a breakpoint at 0x0605, as it stands there first (V-HO6). -/
def atBreakpoint : State :=
  { start [0xA2, 0x05, 0xA9, 0x00, 0x18, 0x69, 0x03, 0xCA, 0xD0, 0xFB, 0x85, 0x10, 0x00] [] with
    x := 0x05, p := 0x22, pc := 0x0605, breakLatch := some 0x0605
    params := { Params.standard with breakpoints := [0x0605] } }

/-- V-HO6: the batch stops before the instruction at the breakpoint, and the boundary leads to DebuggingPaused. -/
theorem test_breakpoint_stops_run :
    let t := (run [.mk 100 [] []]
      { atBreakpoint with x := 0x00, p := 0x20, pc := 0x0600, breakLatch := none, runState := .ready
                          debuggerEnabled := false }).2
    t.runState = .debuggingPaused ∧ t.debuggerEnabled = true ∧ t.pc = 0x0605 ∧ t.a = 0x00 ∧ t.x = 0x05 ∧ t.p = 0x22 ∧
    t.breakLatch = some 0x0605 := by decide

/-- V-HO7, V-HO8: past the latched breakpoint, and to it again. -/
theorem test_breakpoint_latch :
    let t := after [.multiStep [] 1] atBreakpoint
    (hostDo (.multiStep [] 1) atBreakpoint).1 = .count 1 ∧ t.a = 0x03 ∧ t.pc = 0x0607 ∧ t.breakLatch = none ∧
    (hostDo (.multiStep [] 100) t).1 = .count 2 ∧ (after [.multiStep [] 100] t).pc = 0x0605 ∧
    (after [.multiStep [] 100] t).breakLatch = some 0x0605 := by decide

/-- V-HO9: a single step checks no breakpoint. -/
theorem test_step_ignores_breakpoints :
    let t := after [.step] { atBreakpoint with a := 0x03, x := 0x04 }
    t.lastResult = .executed ∧ t.a = 0x06 ∧ t.pc = 0x0607 := by decide

/-- V-HO10, V-HO11: goto in Stopped keeps the fault; reset() clears it and keeps memory. -/
theorem test_fault_then_goto_and_reset :
    let t := { start [0xA9, 0x02, 0x8D, 0x05, 0x06, 0x02, 0x00] [] with
               a := 0x02, pc := 0x0605, runState := .stopped, fault := some ⟨.illegalOpcode, 0x0605, 0x02⟩ }
    let u := after [.goto 0x0606] t
    let v := after [.reset] u
    u.pc = 0x0606 ∧ u.fault = t.fault ∧ (hostDo .step u).1 = .rejected ∧ v.fault = none ∧ v.runState = .ready ∧
    v.pc = 0x0600 ∧ v.peek 0x0605 = 0x02 := by decide

/-- V-HO14: a listener's stop() during the first store ends the batch before the next instruction. -/
theorem test_listener_stops :
    let t := { start [0xA2, 0x00, 0x8A, 0x9D, 0x00, 0x02, 0xE8, 0xE0, 0x04, 0xD0, 0xF7, 0x00] [] with
               runState := .ready, debuggerEnabled := false }
    let u := (run [.mk 100 [false, false, true] []] t).2
    u.runState = .stopped ∧ u.pc = 0x0606 ∧ registers u = [0x00, 0x00, 0x00, 0xFF, 0x22] ∧
    writes u = [(0x0200, 0x00)] := by decide

/-- P5: a store into the next instruction is what the next step fetches (70_reset_and_hazards.md R357). -/
theorem test_self_modifying_code :
    let t := after [.step, .step, .step] (start [0xA9, 0x02, 0x8D, 0x05, 0x06, 0xEA, 0x00] [])
    t.fault = some ⟨.illegalOpcode, 0x0605, 0x02⟩ ∧ t.pc = 0x0605 := by decide

/-! ## Witnesses: for each obligation with hypotheses, a state and operands that meet them all, clause by clause -/

theorem test_witness_LoadsTakeTheirOperand :
    (Instr.ldaIndx 0xFF, (0xA1 : Byte), Source.mem (.indx 0xFF), fun v => { State.reset.regs with a := v }) ∈
      loadForms State.reset 0x80 0xFF 0xFFFF := .head _

theorem test_witness_StoresWriteTheirRegister :
    (Instr.staIndx 0xFF, (0x81 : Byte), MemMode.indx 0xFF, State.reset.a) ∈ storeForms State.reset 0xFF 0xFFFF := .head _

theorem test_witness_TransfersCopyAndSetNZ :
    (Instr.tax, (0xAA : Byte), State.reset.a, { State.reset.regs with x := State.reset.a }) ∈
      transferForms State.reset := .head _

/-- PHA and PHP; SP at 0x00 (the warning) and at 0xFF (none). -/
theorem test_witness_PhaAndPhpPush :
    (Instr.pha, (0x48 : Byte), (0x00 : Byte)) ∈ pushForms { State.reset with sp := 0x00 } ∧
    (Instr.php, (0x08 : Byte), (0x30 : Byte)) ∈ pushForms State.reset := by decide

theorem test_witness_PushThenPullRestores : State.reset.flagU = true ∧ State.reset.flagB = false := by decide

theorem test_witness_AdcAddsWithCarry :
    (Instr.adcImm 0x01, (0x69 : Byte), Source.imm 0x01) ∈ adcForms 0x01 0x00 0x0000 ∧ State.reset.flagD = false :=
  ⟨.tail _ (.tail _ (.head _)), by decide⟩

theorem test_witness_SbcSubtractsWithBorrow :
    (Instr.sbcImm 0x01, (0xE9 : Byte), Source.imm 0x01) ∈ sbcForms 0x01 0x00 0x0000 ∧ State.reset.flagD = false :=
  ⟨.tail _ (.tail _ (.head _)), by decide⟩

theorem test_witness_DecimalArithmeticIsRefused :
    Instr.sbcImm 0x01 ∈ decimalForms 0x01 0x00 0x0000 ∧ State.flagD { State.reset with p := 0x28 } = true := by decide

theorem test_witness_ComparesWriteFlagsAlone :
    (Instr.cmpIndx 0x00, (0xC1 : Byte), Source.mem (.indx 0x00), State.reset.a) ∈
      compareForms State.reset 0x01 0x00 0x0000 := .head _

theorem test_witness_IncAndDecModifyMemory :
    (Instr.incZp 0xFF, (0xE6 : Byte), MemMode.zp 0xFF, 1) ∈ incDecForms 0xFF 0xFFFF := .head _

theorem test_witness_IndexIncrementsAndDecrements :
    (Instr.inx, (0xE8 : Byte), (0x01 : Byte), { State.reset.regs with x := 0x01 }) ∈ indexForms State.reset := by decide

theorem test_witness_LogicalOperationsOnA :
    (Instr.andIndx 0xFF, (0x21 : Byte), Source.mem (.indx 0xFF), LogicOp.and) ∈ logicForms 0x80 0xFF 0xFFFF := .head _

theorem test_witness_BitTestsWithoutWriting :
    (Instr.bitZp 0xFF, (0x24 : Byte), Source.mem (.zp 0xFF)) ∈ bitForms 0xFF 0xFFFF := .head _

theorem test_witness_ShiftsAndRotatesOfA :
    (Instr.aslAcc, (0x0A : Byte), ShiftOp.asl) ∈ shiftAForms ∧ (Instr.rorAcc, (0x6A : Byte), ShiftOp.ror) ∈ shiftAForms := by
  decide

theorem test_witness_ShiftsAndRotatesOfMemory :
    (Instr.aslZp 0xFF, (0x06 : Byte), MemMode.zp 0xFF, ShiftOp.asl) ∈ shiftForms 0xFF 0xFFFF := .head _

theorem test_witness_NineRotatesGiveBackAAndCarry : Instr.rolAcc ∈ [Instr.rolAcc, Instr.rorAcc] := by decide

/-- The state right after the JSR is one that kept SP and the two bytes. -/
theorem test_witness_CallThenReturnComesBack :
    ∃ t u : State, exec (.jsr 0x0700) State.reset = .next t ∧ u.sp = t.sp ∧
      ∀ a, (a = wordOf 0x01 (t.sp + 1) ∨ a = wordOf 0x01 (t.sp + 2)) → u.peek a = t.peek a :=
  ⟨_, _, rfl, rfl, fun _ _ => rfl⟩

/-- A condition that holds and one that does not. -/
theorem test_witness_BranchesTestOneFlag :
    (Instr.bpl 0x80, (0x10 : Byte), true) ∈ branchForms State.reset 0x80 ∧
    (Instr.beq 0x7F, (0xF0 : Byte), false) ∈ branchForms State.reset 0x7F := by decide

theorem test_witness_FlagInstructionsWriteOneFlag :
    (Instr.clc, (0x18 : Byte), { State.reset.flags with c := false }) ∈ flagForms State.reset := .head _

/-- The pseudo-op's two clauses: a type that halts and one that does not. -/
theorem test_witness_PseudoOpReportsItsType :
    2 ∈ ({ Params.standard with pseudoOpHalts := [2] } : Params).pseudoOpHalts ∧
    (1 : Byte) ∉ ({ Params.standard with pseudoOpHalts := [2] } : Params).pseudoOpHalts := by decide

/-- The last address of the code range: only the opcode byte has to lie inside it. -/
theorem test_witness_StepRunsTheDecodedInstruction :
    let s := start [0xAD] []
    s.refused = none ∧ s.fault = none ∧ s.codeStart.toNat ≤ s.pc.toNat ∧
    s.pc.toNat < s.codeStart.toNat + s.codeLen ∧ wellFormed s.params (.ldaAbs 0x0000) = true ∧
    decode s.params [s.peek s.pc, s.peek (s.pc + 1), s.peek (s.pc + 2)] = .ok (.ldaAbs 0x0000, []) :=
  ⟨by decide, by decide, by decide, by decide, by decide, rfl⟩

theorem test_witness_IllegalOpcodeFaultsPrecisely :
    let s := start [0x02] []
    s.refused = none ∧ s.fault = none ∧ s.codeStart.toNat ≤ s.pc.toNat ∧
    s.pc.toNat < s.codeStart.toNat + s.codeLen ∧ isUndocumented (s.peek s.pc) = true ∧
    s.peek s.pc ≠ s.params.pseudoOp := by decide

/-- One byte below the range, and the first one behind it. -/
theorem test_witness_LeavingTheCodeRangeHalts :
    let s := { start [0xEA] [] with pc := 0x05FF }
    let t := { start [0xEA] [] with pc := 0x0601 }
    s.refused = none ∧ s.fault = none ∧ s.pc.toNat < s.codeStart.toNat ∧
    t.refused = none ∧ t.fault = none ∧ t.codeStart.toNat + t.codeLen ≤ t.pc.toNat := by decide

theorem test_witness_NoStepWhileFaultOrRefusalStands :
    State.refused { State.reset with refused := some ⟨.decimalMode, 0x0600⟩ } ≠ none ∧
    State.fault { State.reset with fault := some ⟨.illegalOpcode, 0x0600, 0x02⟩ } ≠ none := by decide

/-- One instruction that completes, one that halts, one that is refused. -/
theorem test_witness_InstructionsLeaveEngineControlAlone :
    (∃ t, exec .nop State.reset = .next t ∧ t.runState = State.reset.runState) ∧
    (∃ t, exec .brk State.reset = .next t ∧ t.runState = .completed) ∧
    (∃ t, exec (.adcImm 0x01) { State.reset with p := 0x28 } = .next t ∧ t.refused = some ⟨.decimalMode, 0x0600⟩) :=
  ⟨⟨_, rfl, rfl⟩, ⟨_, rfl, rfl⟩, ⟨_, rfl, rfl⟩⟩

theorem test_witness_OnlyListedInstructionsWriteSpIAndD :
    (∃ t, exec .pha State.reset = .next t ∧ t.sp ≠ State.reset.sp) ∧
    (∃ t, exec .sei State.reset = .next t ∧ t.flagI ≠ State.reset.flagI) ∧
    (∃ t, exec .sed State.reset = .next t ∧ t.flagD ≠ State.reset.flagD) :=
  ⟨⟨_, rfl, by decide⟩, ⟨_, rfl, by decide⟩, ⟨_, rfl, by decide⟩⟩

theorem test_witness_ChangedStreamAccountsForMemory :
    (∃ t, step (start [0x85, 0x10] []) = .next t) ∧ ∀ source, HostAction.write 0xFE 1 ≠ .assemble source :=
  ⟨⟨_, rfl⟩, by simp⟩

theorem test_witness_SampleWordsDecode : Params.standard.wellFormed = true := by decide

theorem test_witness_DecodeOfEncodeIsTheInstruction :
    wellFormed Params.standard (.ldaAbs 0xFFFF) = true ∧
    wellFormed { Params.standard with pseudoOp := 0x02 } (.pseudoOp 0xFF) = true := by decide

theorem test_witness_EncodeOfDecodeIsTheBytes :
    decode Params.standard [0x6C, 0xFF, 0x12, 0x00] = .ok (.jmpInd 0x12FF, [0x00]) ∧
    decode Params.standard [0xFF, 0x01] = .ok (.pseudoOp 0x01, []) := ⟨rfl, rfl⟩

/-- Both sides of the equivalence: the first and the last undocumented byte, the latter being PSEUDO_OP, and a row. -/
theorem test_witness_IllegalBytesAreExactlyTheListed :
    refusal [0x02] = some (.illegalOpcode 0x02) ∧ isUndocumented 0x02 = true ∧ refusal [0xFF, 0x00] = none ∧
    isUndocumented 0xFF = true ∧ refusal [0xFE, 0x00, 0x00] = none ∧ isUndocumented 0xFE = false := by decide

theorem test_witness_StepKeepsTheInvariant : (start [0xEA] []).Inv ∧ ∃ t, step (start [0xEA] []) = .next t :=
  ⟨by unfold State.Inv; decide, _, rfl⟩

theorem test_witness_HostOperationsKeepTheInvariant : (start [0x85, 0x10] [(0xFFFF, 0x01)]).HostInv :=
  ⟨by unfold State.Inv; decide, by decide⟩

theorem test_witness_RejectedOperationsChangeNothing : hostDo .step State.reset = (.rejected, State.reset) := rfl

/-- CODE_VALID false and true. -/
theorem test_witness_ResetOperationLeavesTheProgram :
    State.reset.runState ≠ .running ∧ State.reset.codeValid = false ∧
    (start [0xEA] []).runState ≠ .running ∧ (start [0xEA] []).codeValid = true := by decide

/-- Both run states; the budget 0 and a stop request in each; a budget that is used up, a halt, a core step that executes
nothing. -/
theorem test_witness_MultiStepKeepsItsBudget :
    let p := start [0xEA, 0x00, 0x02] []
    let s := { p with runState := .running }
    (s.runState = .running ∧ p.runState = .debuggingPaused ∧ p.debuggerEnabled = true) ∧
    (hostDo (.multiStep [] 0) s).1 = .count 0 ∧ (hostDo (.multiStep [] 0) p).1 = .count 0 ∧
    (hostDo (.multiStep [] 0) p).2.runState = .debuggingPaused ∧
    (hostDo (.multiStep [] 1) { s with stopRequested := true }).1 = .count 0 ∧
    (hostDo (.multiStep [] 1) { p with stopRequested := true }).1 = .count 0 ∧
    (hostDo (.multiStep [] 1) s).1 = .count 1 ∧ (hostDo (.multiStep [] 9) s).1 = .count 2 ∧
    (hostDo (.multiStep [] 9) { s with pc := 0x0602 }).1 = .count 0 := by decide

theorem test_witness_BatchesSplitAnywhere :
    (batchLoop 0 [] State.reset = (0, State.reset)) ∧
    ∃ t, batchLoop 1 [] (start [0xEA] []) = (1, t) ∧ t.lastResult = .executed := ⟨rfl, _, rfl, rfl⟩

theorem test_witness_StopTakesEffectAtTheBoundary :
    State.runState { start [0xEA] [] with runState := .running } = .running ∧ 1 ≤ 1 := by decide

/-- A source that assembles, with the placed labels and bytes of its lines (S2), and sources that fail each of the three
conditions. -/
theorem test_witness_AssembleSettlesTheCodeRange :
    let placed := placeLines 0x0600 (sourceLines "JMP forward\nforward: BRK".toList)
    let table := labelsOf placed
    State.reset.runState ≠ .running ∧ assembled "JMP forward\nforward: BRK" = (.success 4, [0x4C, 0x03, 0x06, 0x00]) ∧
    table = [("forward".toList, 0x0603)] ∧
    placed.flatMap (lineWrites table) = [(0x0600, 0x4C), (0x0601, 0x03), (0x0602, 0x06), (0x0603, 0x00)] ∧
    failure "lda: NOP" = some (.labelShadowsSymbol, 1) ∧ failure "p: NOP\np: NOP" = some (.duplicateLabel, 2) ∧
    failure "FOO" = some (.unknownMnemonic, 1) := by decide

theorem test_witness_PassesAgreeOnLengths :
    lineBytes [("far".toList, 0x1234)] (sourceLine 1 "JMP far".toList).body 0x0600 = .ok [0x4C, 0x34, 0x12] := rfl

theorem test_witness_DisassemblerAgreesWithTheDecoder : (start [0x8D, 0x00, 0x02] []).fetched = .ok (.staAbs 0x0200) := rfl

theorem test_witness_AssembleThenDisassembleGivesTheLines :
    State.reset.params.wellFormed = true ∧
    (assemble "loop: NOP\n\nJMP loop".toList State.reset).1 = .success 4 := by decide

/-- A state for each clause: the run states of goto, Ready, Running with each request and with none, DebuggingPaused with a
step that completes, halts and faults, and an input address. -/
theorem test_witness_AcceptedOperationsLeadWhereTheTableSays :
    let p := start [0xEA, 0x00, 0x02] []
    let r := { p with runState := .ready, debuggerEnabled := false }
    let s := { r with runState := .running }
    let h := { s with breakpointHit := true }
    let q := { s with stopRequested := true }
    (r.runState = .ready ∧ s.runState = .running ∧ p.runState = .debuggingPaused) ∧
    (q.stopRequested = true ∧ h.stopRequested = false ∧ h.breakpointHit = true ∧ s.breakpointHit = false) ∧
    (after [.boundary] q).runState = .stopped ∧ (after [.boundary] h).runState = .debuggingPaused ∧
    after [.boundary] s = s ∧ (after [.enableDebugger, .boundary] s).runState = .debuggingPaused ∧
    (after [.step] p).runState = .debuggingPaused ∧ (after [.goto 0x0601, .step] p).runState = .completed ∧
    (after [.goto 0x0602, .step] p).runState = .stopped ∧ (after [.goto 0x0602, .step] p).fault ≠ none ∧
    (0xFE : Word) ∈ ({ Params.standard with hostInputAddrs := [0xFE] } : Params).hostInputAddrs := by decide

end Sys2Proof.Tests
end

section
/-! PROOF. The disassembler and the hex dump only read (20_memory.md R72): with a range and without one, the operation
adds its own event to the state and does nothing else. -/

namespace Sys2Proof.Machine

/-- R72, R291: the disassembler, whichever range it takes. -/
theorem hostDo_disassemble_adds_one_event (range : Option (Nat × Nat)) (s : State) :
    ∃ records, hostDo (.disassemble range) s = (.done, s.addEvent (.disassembly records)) := by
  cases range with
  | some r => exact ⟨s.disassembly r.1 r.2, rfl⟩
  | none => exact ⟨s.disassembly s.codeStart.toNat (s.codeStart.toNat + s.codeLen), rfl⟩

/-- R72, R293: the hex dump, whichever range it takes. -/
theorem hostDo_hexdump_adds_one_event (range : Option (Nat × Nat)) (s : State) :
    ∃ text, hostDo (.hexdump range) s = (.done, s.addEvent (.hexdump text)) := by
  cases range with
  | some r => exact ⟨s.hexText r.1 r.2, rfl⟩
  | none => exact ⟨s.hexText s.codeStart.toNat s.codeLen, rfl⟩

/-- Settles O59: either view is `State.addEvent` of an event of its own kind. -/
theorem viewsOnlyRead : Obligations.ViewsOnlyRead := by
  intro s range
  obtain ⟨records, hdis⟩ := hostDo_disassemble_adds_one_event range s
  obtain ⟨text, hhex⟩ := hostDo_hexdump_adds_one_event range s
  rw [hdis, hhex]
  exact ⟨⟨.disassembly records, rfl, rfl⟩, ⟨.hexdump text, rfl, rfl⟩⟩

end Sys2Proof.Machine
end

section
/-! PROOF. Addresses as numbers: a zero-extended byte and an indexed word, and from them the effective addresses
of the direct modes (30_encoding.md R85, R88 to R90). -/

namespace Sys2Proof.Machine

/-- R7: zero extension keeps the number. -/
@[simp] theorem zext16_toNat (v : Byte) : (zext16 v).toNat = v.toNat :=
  BitVec.toNat_setWidth_of_le (by decide)

/-- R89, R90: indexing a word crosses pages and wraps from 0xFFFF to 0x0000. -/
theorem add_zext16_toNat (w : Word) (v : Byte) : (w + zext16 v).toNat = (w.toNat + v.toNat) % 65536 := by
  rw [BitVec.toNat_add, zext16_toNat]

/-- Settles O30: `zp` only extends its byte, `abs` is its word, and `absx` and `absy` index that word by a register. -/
theorem effectiveAddressesOfDirectModes : Obligations.EffectiveAddressesOfDirectModes := by
  intro s z w
  exact ⟨zext16_toNat z, rfl, add_zext16_toNat w s.x, add_zext16_toNat w s.y, wordOf_toNat⟩

end Sys2Proof.Machine
end

section
/-! PROOF. Loads and stores (40_load_store.md R120 to R125): every form is its opcode byte and one of the shared meanings
`loadA`, `loadX`, `loadY` and `store`, whose whole effect Laws/Meanings.lean states. Each proof walks the list of the
family's forms, which stands in the order of the registers. -/

namespace Sys2Proof.Machine

/-- Settles O1: the eight forms of LDA answer as `loadA`, the five of LDX as `loadX`, the five of LDY as `loadY`. -/
theorem loadsTakeTheirOperand : Obligations.LoadsTakeTheirOperand := by
  intro s v z w i op src put form
  iterate 8
    obtain _ | ⟨_, form⟩ := form
    · exact ⟨fun _ => rfl, loadA_answers s _⟩
  iterate 5
    obtain _ | ⟨_, form⟩ := form
    · exact ⟨fun _ => rfl, loadX_answers s _⟩
  iterate 5
    obtain _ | ⟨_, form⟩ := form
    · exact ⟨fun _ => rfl, loadY_answers s _⟩
  cases form

/-- Settles O2: the seven forms of STA store A, the three of STX store X, the three of STY store Y. -/
theorem storesWriteTheirRegister : Obligations.StoresWriteTheirRegister := by
  intro s z w i op m v form
  iterate 7
    obtain _ | ⟨_, form⟩ := form
    · exact ⟨fun _ => rfl, store_answers s s.a _⟩
  iterate 3
    obtain _ | ⟨_, form⟩ := form
    · exact ⟨fun _ => rfl, store_answers s s.x _⟩
  iterate 3
    obtain _ | ⟨_, form⟩ := form
    · exact ⟨fun _ => rfl, store_answers s s.y _⟩
  cases form

end Sys2Proof.Machine
end

section
/-! PROOF. Register transfers (41_transfer.md R140 to R145). Those that set N and Z are the shared meanings `transferA`,
`transferX` and `transferY`, whose whole effect Laws/Meanings.lean states; TXS sets SP and nothing else. -/

namespace Sys2Proof.Machine

/-- Settles O3: TAX and TSX answer as `transferX`, TAY as `transferY`, TXA and TYA as `transferA`; the cases stand in the
order of the list of forms. -/
theorem transfersCopyAndSetNZ : Obligations.TransfersCopyAndSetNZ := by
  intro s i op v regs form
  obtain _ | ⟨_, _ | ⟨_, _ | ⟨_, _ | ⟨_, _ | ⟨_, beyond⟩⟩⟩⟩⟩ := form
  · exact ⟨fun _ => rfl, transferX_answers s s.a⟩
  · exact ⟨fun _ => rfl, transferY_answers s s.a⟩
  · exact ⟨fun _ => rfl, transferA_answers s s.x⟩
  · exact ⟨fun _ => rfl, transferA_answers s s.y⟩
  · exact ⟨fun _ => rfl, transferX_answers s s.sp⟩
  · cases beyond

/-- R145: TXS writes SP and the pc, and answers as a meaning with no write to memory. -/
theorem execTxs_answers (s : State) :
    Answers (execTxs s) s { s.regs with sp := s.x, pc := s.pc + 1 } s.flags [] :=
  answers_quiet s rfl (by simp) (by simp) (by simp) (by simp) (by simp) (by simp)

/-- Settles O4: TXS is its opcode byte, and `execTxs_answers` is its effect. -/
theorem txsCopiesWithoutFlagsOrWarning : Obligations.TxsCopiesWithoutFlagsOrWarning :=
  fun s => ⟨fun _ => rfl, execTxs_answers s⟩

end Sys2Proof.Machine
end

section
/-! PROOF. The add core (43_arithmetic.md R158) as exact sums, unsigned and signed. The sign bit is the bridge between its
overflow formula and the signed reading. -/

namespace Sys2Proof.Machine

/-- Masking with 0x80 tests the sign bit. -/
theorem and_signBit_ne_zero_iff (v : Byte) : v &&& 0x80 ≠ 0 ↔ v.msb = true := by
  have mask : (0x80 : Byte) = BitVec.twoPow 8 7 := by decide
  rw [mask, BitVec.and_twoPow, BitVec.msb_eq_getLsbD_last]
  cases v.getLsbD (8 - 1) <;> simp

/-- R158: the result is the sum modulo 256. -/
theorem addC_result_toNat (a m : Byte) (c : Bool) :
    (addC a m c).result.toNat = (a.toNat + m.toNat + c.toNat) % 256 :=
  BitVec.toNat_ofNat _ _

/-- R158: the overflow formula says that `a` and `m` have the same sign bit and the result has the other one. -/
theorem addC_overflow_iff_signs (a m : Byte) (c : Bool) :
    (addC a m c).overflow = true ↔ a.msb = m.msb ∧ (addC a m c).result.msb ≠ a.msb := by
  have formula : (addC a m c).overflow =
      decide ((a ^^^ (addC a m c).result) &&& (m ^^^ (addC a m c).result) &&& 0x80 ≠ 0) := rfl
  rw [formula, decide_eq_true_iff, and_signBit_ne_zero_iff, BitVec.msb_and, BitVec.msb_xor, BitVec.msb_xor]
  cases a.msb <;> cases m.msb <;> cases (addC a m c).result.msb <;> decide

/-- R158: overflow is exactly that the signed sum does not fit a byte. -/
theorem addC_overflow_iff_signed (a m : Byte) (c : Bool) :
    (addC a m c).overflow = true ↔
      ¬ (-128 ≤ a.toInt + m.toInt + (c.toNat : Int) ∧ a.toInt + m.toInt + (c.toNat : Int) ≤ 127) := by
  have result := addC_result_toNat a m c
  have carry := c.toNat_le
  rw [addC_overflow_iff_signs]
  simp only [BitVec.msb_eq_decide, BitVec.toInt_eq_toNat_cond, ne_eq, decide_eq_decide, Nat.reducePow, Nat.reduceSub]
  omega

/-- Settles O9: result, carry and formula are the add core's own, and the two lemmas on overflow read the formula. -/
theorem addCoreIsExact : Obligations.AddCoreIsExact := fun a m c =>
  ⟨addC_result_toNat a m c, rfl, rfl, addC_overflow_iff_signs a m c, addC_overflow_iff_signed a m c⟩

end Sys2Proof.Machine
end

section
/-! PROOF. Compares and the steps of an index register (43_arithmetic.md R162 to R164, R166, R167, R169, R170): the rules
count with numbers modulo 256 and the model with bytes, and the two agree. The meanings are the shared `compareWith`,
`transferX` and `transferY`, whose whole effect Laws/Meanings.lean states. -/

namespace Sys2Proof.Machine

/-- Adding to a byte's number and narrowing once is adding modulo 256. -/
theorem ofNat_toNat_add (v : Byte) (k : Nat) : BitVec.ofNat 8 (v.toNat + k) = v + BitVec.ofNat 8 k := by
  rw [BitVec.ofNat_add, BitVec.ofNat_toNat, BitVec.setWidth_eq]

/-- R168 to R170: subtracting 1 modulo 256 is adding 255. -/
theorem ofNat_toNat_add_255 (v : Byte) : BitVec.ofNat 8 (v.toNat + 255) = v - 1 := by
  rw [ofNat_toNat_add, BitVec.sub_eq_add_neg]
  rfl

/-- R162: the difference modulo 256, on numbers. -/
theorem ofNat_toNat_sub (v m : Byte) : BitVec.ofNat 8 (v.toNat + 256 - m.toNat) = v - m := by
  bv_omega

/-- R162: a difference modulo 256 is 0 exactly when the bytes are equal. -/
theorem sub_eq_zero_iff_eq (v m : Byte) : v - m = 0 ↔ v = m := by
  bv_omega

/-- R162 to R164: a compare, with its flags as the rules word them: Z is "equal", N is from the difference's number. -/
theorem compareWith_answers_numbers (s : State) (reg : Byte) (src : Source) :
    Answers (compareWith reg src s) s { s.regs with pc := s.pc + BitVec.ofNat 16 src.length }
      { s.flags with n := (BitVec.ofNat 8 (reg.toNat + 256 - (src.value s).toNat) : Byte).getLsbD 7,
                     z := decide (reg = src.value s), c := decide ((src.value s).toNat ≤ reg.toNat) } [] := by
  have flags := compareWith_answers s reg src
  simpa only [ofNat_toNat_sub, sub_eq_zero_iff_eq] using flags

/-- Settles O13: the eight forms of CMP compare A, the three of CPX X, the three of CPY Y. -/
theorem comparesWriteFlagsAlone : Obligations.ComparesWriteFlagsAlone := by
  intro s v z w i op src reg form
  iterate 8
    obtain _ | ⟨_, form⟩ := form
    · exact ⟨fun _ => rfl, compareWith_answers_numbers s s.a _⟩
  iterate 3
    obtain _ | ⟨_, form⟩ := form
    · exact ⟨fun _ => rfl, compareWith_answers_numbers s s.x _⟩
  iterate 3
    obtain _ | ⟨_, form⟩ := form
    · exact ⟨fun _ => rfl, compareWith_answers_numbers s s.y _⟩
  cases form

/-- Settles O15: INX and DEX answer as `transferX`, INY and DEY as `transferY`, each of the register plus or minus 1; the
cases stand in the order of the list of forms. -/
theorem indexIncrementsAndDecrements : Obligations.IndexIncrementsAndDecrements := by
  intro s i op r regs form
  simp only [indexForms, ofNat_toNat_add_255, ofNat_toNat_add _ 1] at form
  obtain _ | ⟨_, _ | ⟨_, _ | ⟨_, _ | ⟨_, beyond⟩⟩⟩⟩ := form
  · exact ⟨fun _ => rfl, transferX_answers s (s.x + 1)⟩
  · exact ⟨fun _ => rfl, transferY_answers s (s.y + 1)⟩
  · exact ⟨fun _ => rfl, transferX_answers s (s.x - 1)⟩
  · exact ⟨fun _ => rfl, transferY_answers s (s.y - 1)⟩
  · cases beyond

end Sys2Proof.Machine
end

section
/-! PROOF. The logical operations (44_logical.md R180 to R183). The model combines bytes where the statement combines
bits; the meanings are the shared `logicResult` and `bitTest`, whose whole effect Laws/Meanings.lean states. -/

namespace Sys2Proof.Machine

/-- The byte that AND, ORA and EOR leave in A, as the meanings `andA`, `orA` and `eorA` compute it. -/
def LogicOp.onBytes : LogicOp → Byte → Byte → Byte
  | .and, a, m => a &&& m
  | .or, a, m => a ||| m
  | .xor, a, m => a ^^^ m

/-- R180 to R182: the operation on bytes is the operation on each of their bits. -/
theorem LogicOp.onBytes_getLsbD (f : LogicOp) (a m : Byte) (k : Nat) :
    (f.onBytes a m).getLsbD k = f.onBits (a.getLsbD k) (m.getLsbD k) := by
  cases f with
  | and => exact BitVec.getLsbD_and
  | or => exact BitVec.getLsbD_or
  | xor => exact BitVec.getLsbD_xor

/-- R180 to R182: A combined with the operand by `f`, the result given by its bits. -/
theorem logicResult_onBytes_answers_bits (s : State) (f : LogicOp) (src : Source) :
    ∃ r : Byte, (∀ k, k < 8 → r.getLsbD k = f.onBits (s.a.getLsbD k) ((src.value s).getLsbD k)) ∧
      Answers (logicResult (f.onBytes s.a (src.value s)) src s) s
        { s.regs with a := r, pc := s.pc + BitVec.ofNat 16 src.length }
        { s.flags with n := r.getLsbD 7, z := decide (r = 0) } [] :=
  ⟨f.onBytes s.a (src.value s), fun k _ => f.onBytes_getLsbD s.a (src.value s) k, logicResult_answers s _ src⟩

/-- Settles O16: the eight forms of AND, the eight of ORA and the eight of EOR leave their operation on A and the operand;
the list of forms stands in that order. -/
theorem logicalOperationsOnA : Obligations.LogicalOperationsOnA := by
  intro s v z w i op src f form
  iterate 8
    obtain _ | ⟨_, form⟩ := form
    · exact ⟨fun _ => rfl, logicResult_onBytes_answers_bits s .and _⟩
  iterate 8
    obtain _ | ⟨_, form⟩ := form
    · exact ⟨fun _ => rfl, logicResult_onBytes_answers_bits s .or _⟩
  iterate 8
    obtain _ | ⟨_, form⟩ := form
    · exact ⟨fun _ => rfl, logicResult_onBytes_answers_bits s .xor _⟩
  cases form

/-- Settles O17: both forms of BIT answer as `bitTest`. -/
theorem bitTestsWithoutWriting : Obligations.BitTestsWithoutWriting := by
  intro s z w i op src form
  obtain _ | ⟨_, _ | ⟨_, beyond⟩⟩ := form
  · exact ⟨fun _ => rfl, bitTest_answers s (.mem (.zp z))⟩
  · exact ⟨fun _ => rfl, bitTest_answers s (.mem (.abs w))⟩
  · cases beyond

end Sys2Proof.Machine
end

section
/-! PROOF. The flag instructions and NOP (47_flags_system.md R220 to R227). Each completes, with length 1, from a state that
differs from the old one in its flags alone; NOP is the case where they do not differ either. -/

namespace Sys2Proof.Machine

/-- R220 to R227: completing with length 1 from a state `u` that keeps all views of `s` but the flags. -/
theorem complete_one_answers_of_flags {s u : State} {flags : Flags} (hflags : u.flags = flags) (hregs : u.regs = s.regs)
    (hcontrol : u.control = s.control) (hmem : u.mem = s.mem) (hevents : u.events = s.events) :
    Answers (.next (u.complete 1)) s { s.regs with pc := s.pc + 1 } flags [] := by
  have hpc : u.pc = s.pc := congrArg Regs.pc hregs
  have regsAfter : (u.complete 1).regs = { s.regs with pc := s.pc + 1 } := by
    rw [State.complete_regs, hregs, hpc]
    rfl
  exact answers_quiet s rfl regsAfter hflags hcontrol rfl hmem hevents

/-- R220, R221: CLC and SEC. -/
theorem setC_complete_answers (s : State) (v : Bool) :
    Answers (.next ((s.setC v).complete 1)) s { s.regs with pc := s.pc + 1 } { s.flags with c := v } [] :=
  complete_one_answers_of_flags (s.setC_flags v) rfl rfl rfl rfl

/-- R222, R223: CLI and SEI. -/
theorem setI_complete_answers (s : State) (v : Bool) :
    Answers (.next ((s.setI v).complete 1)) s { s.regs with pc := s.pc + 1 } { s.flags with i := v } [] :=
  complete_one_answers_of_flags (s.setI_flags v) rfl rfl rfl rfl

/-- R224, R225: CLD and SED. -/
theorem setD_complete_answers (s : State) (v : Bool) :
    Answers (.next ((s.setD v).complete 1)) s { s.regs with pc := s.pc + 1 } { s.flags with d := v } [] :=
  complete_one_answers_of_flags (s.setD_flags v) rfl rfl rfl rfl

/-- R226: CLV. -/
theorem execClv_answers (s : State) :
    Answers (execClv s) s { s.regs with pc := s.pc + 1 } { s.flags with v := false } [] :=
  complete_one_answers_of_flags (s.setV_flags false) rfl rfl rfl rfl

/-- R227: NOP. -/
theorem execNop_answers (s : State) : Answers (execNop s) s { s.regs with pc := s.pc + 1 } s.flags [] :=
  complete_one_answers_of_flags rfl rfl rfl rfl rfl

/-- Settles O26: each instruction of the list is its opcode byte and answers as its flag's lemma says; the cases stand in
the order of the list of forms. -/
theorem flagInstructionsWriteOneFlag : Obligations.FlagInstructionsWriteOneFlag := by
  intro s i op flags form
  obtain _ | ⟨_, _ | ⟨_, _ | ⟨_, _ | ⟨_, _ | ⟨_, _ | ⟨_, _ | ⟨_, _ | ⟨_, beyond⟩⟩⟩⟩⟩⟩⟩⟩ := form
  · exact ⟨fun _ => rfl, setC_complete_answers s false⟩
  · exact ⟨fun _ => rfl, setC_complete_answers s true⟩
  · exact ⟨fun _ => rfl, setI_complete_answers s false⟩
  · exact ⟨fun _ => rfl, setI_complete_answers s true⟩
  · exact ⟨fun _ => rfl, setD_complete_answers s false⟩
  · exact ⟨fun _ => rfl, setD_complete_answers s true⟩
  · exact ⟨fun _ => rfl, execClv_answers s⟩
  · exact ⟨fun _ => rfl, execNop_answers s⟩
  · cases beyond

end Sys2Proof.Machine
end

section
/-! PROOF. The decoder against the encoder (30_encoding.md R80 to R99). The opcode table and the list of R96 share out the
256 bytes, so a legal PSEUDO_OP has no row; and of each row, and of each instruction, the encoder and the table say the
same. -/

namespace Sys2Proof

open Laws

/-! ## Which bytes have a row -/

set_option maxRecDepth 20000 in
/-- R96, R98: the opcode bytes of the table and the undocumented bytes are together the 256 bytes, each once. -/
theorem opcodes_append_undocumented_perm :
    (opcodeTable.map (fun r => r.opcode.toNat) ++ undocumentedBytes.map BitVec.toNat).Perm (List.range 256) := by
  decide

/-- R96: a byte is undocumented exactly when it has no row. -/
theorem isUndocumented_iff_lookup_eq_none (op : Byte) : isUndocumented op = true ↔ lookup op = none := by
  have listed : isUndocumented op = true ↔ op.toNat ∈ undocumentedBytes.map BitVec.toNat := by
    simp [isUndocumented, BitVec.toNat_inj]
  have unrowed : lookup op = none ↔ op.toNat ∉ opcodeTable.map (fun r => r.opcode.toNat) := by
    simp [lookup, List.find?_eq_none, BitVec.toNat_inj]
  obtain ⟨-, -, apart⟩ := List.nodup_append.1 (opcodes_append_undocumented_perm.nodup_iff.2 List.nodup_range)
  have either : op.toNat ∈ opcodeTable.map (fun r => r.opcode.toNat) ++ undocumentedBytes.map BitVec.toNat :=
    opcodes_append_undocumented_perm.mem_iff.2 (List.mem_range.2 op.isLt)
  rw [listed, unrowed]
  exact ⟨fun hu hr => apart _ hr _ hu rfl, (List.mem_append.1 either).resolve_left⟩

/-- R6: under legal parameters no opcode byte of the table is PSEUDO_OP. -/
theorem ne_pseudoOp_of_lookup {ps : Params} (legal : ps.wellFormed = true) {op : Byte} {row : Row}
    (h : lookup op = some row) : op ≠ ps.pseudoOp := by
  rintro rfl
  rw [(isUndocumented_iff_lookup_eq_none _).1 legal] at h
  cases h

/-- Settles O45: the decoder answers `illegalOpcode` in one branch alone, that of a byte with no row. -/
theorem illegalBytesAreExactlyTheListed : Obligations.IllegalBytesAreExactlyTheListed := by
  intro ps op rest
  rw [isUndocumented_iff_lookup_eq_none]
  by_cases pseudo : op = ps.pseudoOp
  · cases rest <;> simp [decode, pseudo]
  · cases row : lookup op with
    | none => simp [decode_illegal rest pseudo row, pseudo]
    | some r =>
      simp only [decode, if_neg pseudo, row]
      split <;> simp

/-! ## The rows, one by one -/

/-- The operand bytes that the encoder writes for an instruction of the given length made from `b1` and `b2` (R80). -/
def writtenOperands : Nat → Byte → Byte → List Byte
  | 1, _, _ => []
  | 2, b1, _ => [b1]
  | _, b1, b2 => [loByte (wordOf b2 b1), hiByte (wordOf b2 b1)]

/-- What the encoder and the decoder need of a row (R98): its instruction is encoded as its opcode byte and operand bytes,
and is made from the operand bytes alone that its length leaves it. -/
def Row.Agrees (row : Row) : Prop :=
  ∀ (ps : Params) (b1 b2 : Byte),
    encode ps (row.make b1 b2) = row.opcode :: writtenOperands row.length b1 b2 ∧
    row.make b1 b2 = row.make (([b1, b2].take (row.length - 1)).getD 0 0) (([b1, b2].take (row.length - 1)).getD 1 0)

/-- R98: the 151 rows, in the order of the table. -/
theorem row_agrees {row : Row} (h : row ∈ opcodeTable) : row.Agrees := by
  iterate 151
    obtain _ | ⟨_, h⟩ := h
    · exact fun _ _ _ => ⟨rfl, rfl⟩
  cases h

/-- R82: an instruction has 1, 2 or 3 bytes. -/
theorem Row.length_cases (row : Row) : row.length = 1 ∨ row.length = 2 ∨ row.length = 3 := by
  rw [Row.length]
  cases row.mode <;> decide

/-- R80, R98: the bytes of a row's instruction are those it was made from. -/
theorem encode_make {row : Row} (h : row ∈ opcodeTable) (ps : Params) (b1 b2 : Byte) :
    encode ps (row.make b1 b2) = row.opcode :: [b1, b2].take (row.length - 1) := by
  rw [(row_agrees h ps b1 b2).1]
  obtain len | len | len := row.length_cases <;> simp [len, writtenOperands]

/-- R80: bytes beyond a row's length take no part in its instruction. -/
theorem make_append {row : Row} (h : row ∈ opcodeTable) (operands rest : List Byte)
    (len : row.length = operands.length + 1) :
    row.make ((operands ++ rest).getD 0 0) ((operands ++ rest).getD 1 0) =
      row.make (operands.getD 0 0) (operands.getD 1 0) := by
  have local_make := fun b1 b2 => (row_agrees h Params.standard b1 b2).2
  match operands with
  | [] => rw [local_make, len]; rfl
  | [b] => rw [local_make, len]; rfl
  | b :: c :: _ => rfl

/-! ## Encode, then decode -/

/-- R98: every instruction but the pseudo-op encodes as its row says. -/
theorem encodesItsRow : ∀ i : Instr, EncodesItsRow.Statement i
  | .brk => EncodesItsRow.brk | .oraIndx z => EncodesItsRow.oraIndx z | .oraZp z => EncodesItsRow.oraZp z
  | .aslZp z => EncodesItsRow.aslZp z | .php => EncodesItsRow.php | .oraImm v => EncodesItsRow.oraImm v
  | .aslAcc => EncodesItsRow.aslAcc | .oraAbs w => EncodesItsRow.oraAbs w | .aslAbs w => EncodesItsRow.aslAbs w
  | .bpl d => EncodesItsRow.bpl d | .oraIndy z => EncodesItsRow.oraIndy z | .oraZpx z => EncodesItsRow.oraZpx z
  | .aslZpx z => EncodesItsRow.aslZpx z | .clc => EncodesItsRow.clc | .oraAbsy w => EncodesItsRow.oraAbsy w
  | .oraAbsx w => EncodesItsRow.oraAbsx w | .aslAbsx w => EncodesItsRow.aslAbsx w | .jsr w => EncodesItsRow.jsr w
  | .andIndx z => EncodesItsRow.andIndx z | .bitZp z => EncodesItsRow.bitZp z | .andZp z => EncodesItsRow.andZp z
  | .rolZp z => EncodesItsRow.rolZp z | .plp => EncodesItsRow.plp | .andImm v => EncodesItsRow.andImm v
  | .rolAcc => EncodesItsRow.rolAcc | .bitAbs w => EncodesItsRow.bitAbs w | .andAbs w => EncodesItsRow.andAbs w
  | .rolAbs w => EncodesItsRow.rolAbs w | .bmi d => EncodesItsRow.bmi d | .andIndy z => EncodesItsRow.andIndy z
  | .andZpx z => EncodesItsRow.andZpx z | .rolZpx z => EncodesItsRow.rolZpx z | .sec => EncodesItsRow.sec
  | .andAbsy w => EncodesItsRow.andAbsy w | .andAbsx w => EncodesItsRow.andAbsx w
  | .rolAbsx w => EncodesItsRow.rolAbsx w | .rti => EncodesItsRow.rti | .eorIndx z => EncodesItsRow.eorIndx z
  | .eorZp z => EncodesItsRow.eorZp z | .lsrZp z => EncodesItsRow.lsrZp z | .pha => EncodesItsRow.pha
  | .eorImm v => EncodesItsRow.eorImm v | .lsrAcc => EncodesItsRow.lsrAcc | .jmpAbs w => EncodesItsRow.jmpAbs w
  | .eorAbs w => EncodesItsRow.eorAbs w | .lsrAbs w => EncodesItsRow.lsrAbs w | .bvc d => EncodesItsRow.bvc d
  | .eorIndy z => EncodesItsRow.eorIndy z | .eorZpx z => EncodesItsRow.eorZpx z | .lsrZpx z => EncodesItsRow.lsrZpx z
  | .cli => EncodesItsRow.cli | .eorAbsy w => EncodesItsRow.eorAbsy w | .eorAbsx w => EncodesItsRow.eorAbsx w
  | .lsrAbsx w => EncodesItsRow.lsrAbsx w | .rts => EncodesItsRow.rts | .adcIndx z => EncodesItsRow.adcIndx z
  | .adcZp z => EncodesItsRow.adcZp z | .rorZp z => EncodesItsRow.rorZp z | .pla => EncodesItsRow.pla
  | .adcImm v => EncodesItsRow.adcImm v | .rorAcc => EncodesItsRow.rorAcc | .jmpInd w => EncodesItsRow.jmpInd w
  | .adcAbs w => EncodesItsRow.adcAbs w | .rorAbs w => EncodesItsRow.rorAbs w | .bvs d => EncodesItsRow.bvs d
  | .adcIndy z => EncodesItsRow.adcIndy z | .adcZpx z => EncodesItsRow.adcZpx z | .rorZpx z => EncodesItsRow.rorZpx z
  | .sei => EncodesItsRow.sei | .adcAbsy w => EncodesItsRow.adcAbsy w | .adcAbsx w => EncodesItsRow.adcAbsx w
  | .rorAbsx w => EncodesItsRow.rorAbsx w | .staIndx z => EncodesItsRow.staIndx z | .styZp z => EncodesItsRow.styZp z
  | .staZp z => EncodesItsRow.staZp z | .stxZp z => EncodesItsRow.stxZp z | .dey => EncodesItsRow.dey
  | .txa => EncodesItsRow.txa | .styAbs w => EncodesItsRow.styAbs w | .staAbs w => EncodesItsRow.staAbs w
  | .stxAbs w => EncodesItsRow.stxAbs w | .bcc d => EncodesItsRow.bcc d | .staIndy z => EncodesItsRow.staIndy z
  | .styZpx z => EncodesItsRow.styZpx z | .staZpx z => EncodesItsRow.staZpx z | .stxZpy z => EncodesItsRow.stxZpy z
  | .tya => EncodesItsRow.tya | .staAbsy w => EncodesItsRow.staAbsy w | .txs => EncodesItsRow.txs
  | .staAbsx w => EncodesItsRow.staAbsx w | .ldyImm v => EncodesItsRow.ldyImm v
  | .ldaIndx z => EncodesItsRow.ldaIndx z | .ldxImm v => EncodesItsRow.ldxImm v | .ldyZp z => EncodesItsRow.ldyZp z
  | .ldaZp z => EncodesItsRow.ldaZp z | .ldxZp z => EncodesItsRow.ldxZp z | .tay => EncodesItsRow.tay
  | .ldaImm v => EncodesItsRow.ldaImm v | .tax => EncodesItsRow.tax | .ldyAbs w => EncodesItsRow.ldyAbs w
  | .ldaAbs w => EncodesItsRow.ldaAbs w | .ldxAbs w => EncodesItsRow.ldxAbs w | .bcs d => EncodesItsRow.bcs d
  | .ldaIndy z => EncodesItsRow.ldaIndy z | .ldyZpx z => EncodesItsRow.ldyZpx z | .ldaZpx z => EncodesItsRow.ldaZpx z
  | .ldxZpy z => EncodesItsRow.ldxZpy z | .clv => EncodesItsRow.clv | .ldaAbsy w => EncodesItsRow.ldaAbsy w
  | .tsx => EncodesItsRow.tsx | .ldyAbsx w => EncodesItsRow.ldyAbsx w | .ldaAbsx w => EncodesItsRow.ldaAbsx w
  | .ldxAbsy w => EncodesItsRow.ldxAbsy w | .cpyImm v => EncodesItsRow.cpyImm v
  | .cmpIndx z => EncodesItsRow.cmpIndx z | .cpyZp z => EncodesItsRow.cpyZp z | .cmpZp z => EncodesItsRow.cmpZp z
  | .decZp z => EncodesItsRow.decZp z | .iny => EncodesItsRow.iny | .cmpImm v => EncodesItsRow.cmpImm v
  | .dex => EncodesItsRow.dex | .cpyAbs w => EncodesItsRow.cpyAbs w | .cmpAbs w => EncodesItsRow.cmpAbs w
  | .decAbs w => EncodesItsRow.decAbs w | .bne d => EncodesItsRow.bne d | .cmpIndy z => EncodesItsRow.cmpIndy z
  | .cmpZpx z => EncodesItsRow.cmpZpx z | .decZpx z => EncodesItsRow.decZpx z | .cld => EncodesItsRow.cld
  | .cmpAbsy w => EncodesItsRow.cmpAbsy w | .cmpAbsx w => EncodesItsRow.cmpAbsx w
  | .decAbsx w => EncodesItsRow.decAbsx w | .cpxImm v => EncodesItsRow.cpxImm v
  | .sbcIndx z => EncodesItsRow.sbcIndx z | .cpxZp z => EncodesItsRow.cpxZp z | .sbcZp z => EncodesItsRow.sbcZp z
  | .incZp z => EncodesItsRow.incZp z | .inx => EncodesItsRow.inx | .sbcImm v => EncodesItsRow.sbcImm v
  | .nop => EncodesItsRow.nop | .cpxAbs w => EncodesItsRow.cpxAbs w | .sbcAbs w => EncodesItsRow.sbcAbs w
  | .incAbs w => EncodesItsRow.incAbs w | .beq d => EncodesItsRow.beq d | .sbcIndy z => EncodesItsRow.sbcIndy z
  | .sbcZpx z => EncodesItsRow.sbcZpx z | .incZpx z => EncodesItsRow.incZpx z | .sed => EncodesItsRow.sed
  | .sbcAbsy w => EncodesItsRow.sbcAbsy w | .sbcAbsx w => EncodesItsRow.sbcAbsx w
  | .incAbsx w => EncodesItsRow.incAbsx w | .pseudoOp t => EncodesItsRow.pseudoOp t

/-- Settles O43: the pseudo-op decodes by its own byte; any other instruction by its row, whose byte is not PSEUDO_OP. -/
theorem decodeOfEncodeIsTheInstruction : Obligations.DecodeOfEncodeIsTheInstruction := by
  intro ps i rest legal
  obtain ⟨t, rfl, bytes⟩ | ⟨op, operands, row, bytes, found, len, made⟩ := encodesItsRow i ps
  · rw [bytes]
    exact decode_pseudoOp ps t rest
  · have enough : row.length ≤ (operands ++ rest).length + 1 := by simp [len]
    rw [bytes, List.cons_append, decode_row _ (ne_pseudoOp_of_lookup legal found) found enough,
      make_append (mem_of_lookup found).1 _ _ len, made, len, Nat.add_sub_cancel, List.drop_left]

/-- Settles O42: each word is the encoding of its instruction, with nothing behind it. -/
theorem sampleWordsDecode : Obligations.SampleWordsDecode := by
  intro ps legal
  have word (i : Instr) : decode ps (encode ps i ++ []) = .ok (i, []) := decodeOfEncodeIsTheInstruction ps i [] legal
  exact ⟨word (.ldaImm 0x80), word (.staAbs 0x0200), word .tsx, word .pha, word (.adcIndy 0x20), word (.eorIndx 0xFE),
    word (.rorAbsx 0x0200), word (.jmpInd 0x12FF), word (.bne 0xFB), word .clv, word (.pseudoOp 0x01)⟩

/-! ## Decode, then encode -/

/-- Everything the decoder can read (R81, R97, R99): the pseudo-op, or a row's instruction made from enough bytes. -/
theorem decode_cases {ps : Params} {bs rest : List Byte} {i : Instr} (h : decode ps bs = .ok (i, rest)) :
    (∃ t, bs = ps.pseudoOp :: t :: rest ∧ i = .pseudoOp t) ∨
    ∃ op tail row, bs = op :: tail ∧ op ≠ ps.pseudoOp ∧ lookup op = some row ∧ row.length ≤ tail.length + 1 ∧
      i = row.make (tail.getD 0 0) (tail.getD 1 0) ∧ rest = tail.drop (row.length - 1) := by
  unfold decode at h
  split at h
  · cases h
  · rename_i op tail
    split at h
    · rename_i pseudo
      split at h
      · cases h
      · cases h
        exact .inl ⟨_, by rw [pseudo], rfl⟩
    · rename_i pseudo
      split at h
      · cases h
      · rename_i row found
        split at h
        · cases h
        · rename_i enough
          cases h
          exact .inr ⟨op, tail, row, rfl, pseudo, found, by omega, rfl, rfl⟩

/-- R99: the bytes that a row's length takes from the head of a list, given one by one. -/
theorem take_getD_append_drop {n : Nat} {tail : List Byte} (hn : n ≤ 2) (h : n ≤ tail.length) :
    [tail.getD 0 0, tail.getD 1 0].take n ++ tail.drop n = tail := by
  match n, tail with
  | 0, _ => rfl
  | 1, _ :: _ => rfl
  | 2, _ :: _ :: _ => rfl

/-- Settles O44: the pseudo-op's two bytes are its encoding, and a row's bytes are those its instruction was made from. -/
theorem encodeOfDecodeIsTheBytes : Obligations.EncodeOfDecodeIsTheBytes := by
  intro ps bs i rest h
  obtain ⟨t, rfl, rfl⟩ | ⟨op, tail, row, rfl, -, found, enough, rfl, rfl⟩ := decode_cases h
  · rfl
  · obtain ⟨mem, rfl⟩ := mem_of_lookup found
    have len := row.length_cases
    rw [encode_make mem, List.cons_append, take_getD_append_drop (by omega) (by omega)]

end Sys2Proof
end

section
/-! PROOF. What an instruction can do. Every arm of `exec` is one of the meanings listed by `Meaning`; every meaning
completes by keeping the control state and the bits U and B (`Keeps`), or halts after that, or refuses. The instructions'
noninterference (10_state.md R45), the stream of changes (20_memory.md R60) and the invariant rest on these two lemmas. -/

namespace Sys2Proof.Machine

/-! ## The meaning of each instruction -/

/-- The meanings that the arms of `exec` are. The first group is shared by instructions that leave SP, I and D alone; a
constructor of the second group names its instruction. -/
inductive Meaning (s : State) : Instr → Result → Prop where
  | loadA (i : Instr) (src : Source) : Meaning s i (loadA src s)
  | loadX (i : Instr) (src : Source) : Meaning s i (loadX src s)
  | loadY (i : Instr) (src : Source) : Meaning s i (loadY src s)
  | store (i : Instr) (v : Byte) (m : MemMode) : Meaning s i (store v m s)
  | transferA (i : Instr) (v : Byte) : Meaning s i (transferA v s)
  | transferX (i : Instr) (v : Byte) : Meaning s i (transferX v s)
  | transferY (i : Instr) (v : Byte) : Meaning s i (transferY v s)
  | add (i : Instr) (src : Source) : Meaning s i (addWithCarry src s)
  | sub (i : Instr) (src : Source) : Meaning s i (subWithCarry src s)
  | compare (i : Instr) (reg : Byte) (src : Source) : Meaning s i (compareWith reg src s)
  | modify (i : Instr) (f : Byte → Byte) (m : MemMode) : Meaning s i (modifyMem f m s)
  | logic (i : Instr) (r : Byte) (src : Source) : Meaning s i (logicResult r src s)
  | bit (i : Instr) (src : Source) : Meaning s i (bitTest src s)
  | shiftA (i : Instr) (f : Byte → Bool → ShiftOut) : Meaning s i (shiftRotate f .acc s)
  | shiftMem (i : Instr) (f : Byte → Bool → ShiftOut) (m : MemMode) : Meaning s i (shiftRotate f (.mem m) s)
  | branch (i : Instr) (cond : Bool) (d : Byte) : Meaning s i (branch cond d s)
  | jump (i : Instr) (target : Word) : Meaning s i (.next (s.jump target))
  | writeC (i : Instr) (v : Bool) : Meaning s i (.next ((s.setC v).complete 1))
  | clv : Meaning s .clv (execClv s)
  | nop : Meaning s .nop (execNop s)
  | brk : Meaning s .brk (execBrk s)
  | pseudoOp (t : Byte) : Meaning s (.pseudoOp t) (pseudoOperation t s)
  | pha : Meaning s .pha (execPha s)
  | php : Meaning s .php (execPhp s)
  | pla : Meaning s .pla (execPla s)
  | plp : Meaning s .plp (execPlp s)
  | jsr (w : Word) : Meaning s (.jsr w) (callSubroutine w s)
  | rts : Meaning s .rts (returnFromSubroutine s)
  | rti : Meaning s .rti (returnFromInterrupt s)
  | txs : Meaning s .txs (execTxs s)
  | cli : Meaning s .cli (.next ((s.setI false).complete 1))
  | sei : Meaning s .sei (.next ((s.setI true).complete 1))
  | cld : Meaning s .cld (.next ((s.setD false).complete 1))
  | sed : Meaning s .sed (.next ((s.setD true).complete 1))

/-- The arms of `exec`, family by family. -/
theorem exec_meaning (i : Instr) (s : State) : Meaning s i (exec i s) := by
  cases i with
  | ldaIndx | ldaZp | ldaImm | ldaAbs | ldaIndy | ldaZpx | ldaAbsy | ldaAbsx => exact .loadA _ _
  | ldxImm | ldxZp | ldxAbs | ldxZpy | ldxAbsy => exact .loadX _ _
  | ldyImm | ldyZp | ldyAbs | ldyZpx | ldyAbsx => exact .loadY _ _
  | staIndx | staZp | staAbs | staIndy | staZpx | staAbsy | staAbsx => exact .store _ s.a _
  | stxZp | stxAbs | stxZpy => exact .store _ s.x _
  | styZp | styAbs | styZpx => exact .store _ s.y _
  | txa | tya => exact .transferA _ _
  | tax | tsx | inx | dex => exact .transferX _ _
  | tay | iny | dey => exact .transferY _ _
  | adcIndx | adcZp | adcImm | adcAbs | adcIndy | adcZpx | adcAbsy | adcAbsx => exact .add _ _
  | sbcIndx | sbcZp | sbcImm | sbcAbs | sbcIndy | sbcZpx | sbcAbsy | sbcAbsx => exact .sub _ _
  | cmpIndx | cmpZp | cmpImm | cmpAbs | cmpIndy | cmpZpx | cmpAbsy | cmpAbsx => exact .compare _ s.a _
  | cpxImm | cpxZp | cpxAbs => exact .compare _ s.x _
  | cpyImm | cpyZp | cpyAbs => exact .compare _ s.y _
  | incZp | incAbs | incZpx | incAbsx => exact .modify _ (fun v => v + 1) _
  | decZp | decAbs | decZpx | decAbsx => exact .modify _ (fun v => v - 1) _
  | andIndx | andZp | andImm | andAbs | andIndy | andZpx | andAbsy | andAbsx => exact .logic _ _ _
  | oraIndx | oraZp | oraImm | oraAbs | oraIndy | oraZpx | oraAbsy | oraAbsx => exact .logic _ _ _
  | eorIndx | eorZp | eorImm | eorAbs | eorIndy | eorZpx | eorAbsy | eorAbsx => exact .logic _ _ _
  | bitZp | bitAbs => exact .bit _ _
  | aslAcc => exact .shiftA _ aslByte
  | lsrAcc => exact .shiftA _ lsrByte
  | rolAcc => exact .shiftA _ rolByte
  | rorAcc => exact .shiftA _ rorByte
  | aslZp | aslAbs | aslZpx | aslAbsx => exact .shiftMem _ aslByte _
  | lsrZp | lsrAbs | lsrZpx | lsrAbsx => exact .shiftMem _ lsrByte _
  | rolZp | rolAbs | rolZpx | rolAbsx => exact .shiftMem _ rolByte _
  | rorZp | rorAbs | rorZpx | rorAbsx => exact .shiftMem _ rorByte _
  | bpl | bmi | bvc | bvs | bcc | bcs | bne | beq => exact .branch _ _ _
  | jmpAbs | jmpInd => exact .jump _ _
  | clc => exact .writeC _ false
  | sec => exact .writeC _ true
  | clv => exact .clv
  | nop => exact .nop
  | brk => exact .brk
  | pseudoOp t => exact .pseudoOp t
  | pha => exact .pha
  | php => exact .php
  | pla => exact .pla
  | plp => exact .plp
  | jsr w => exact .jsr w
  | rts => exact .rts
  | rti => exact .rti
  | txs => exact .txs
  | cli => exact .cli
  | sei => exact .sei
  | cld => exact .cld
  | sed => exact .sed

/-! ## What completing keeps -/

/-- From `s` to `t` the control state is the same, the events appended account for memory, memory stays in canonical form,
and U and B stay as every state of the block has them (10_state.md R26, R27, R34, R45; 20_memory.md R60). -/
structure Keeps (s t : State) : Prop where
  control : t.control = s.control
  accounts : Accounts s t
  wf : s.mem.wf = true → t.mem.wf = true
  status : s.flagU = true ∧ s.flagB = false → t.flagU = true ∧ t.flagB = false

theorem Keeps.trans {s t u : State} (h : Keeps s t) (g : Keeps t u) : Keeps s u :=
  ⟨g.control.trans h.control, h.accounts.trans g.accounts, g.wf ∘ h.wf, g.status ∘ h.status⟩

/-- Changes of registers, and of flags other than U and B. -/
theorem Keeps.quiet {s t : State} (control : t.control = s.control) (events : t.events = s.events) (mem : t.mem = s.mem)
    (u : t.flagU = s.flagU) (b : t.flagB = s.flagB) : Keeps s t :=
  ⟨control, .quiet events mem, fun h => mem ▸ h, fun h => ⟨u.trans h.1, b.trans h.2⟩⟩

theorem Keeps.complete (s : State) (n : Nat) : Keeps s (s.complete n) := .quiet rfl rfl rfl rfl rfl

theorem Keeps.jump (s : State) (w : Word) : Keeps s (s.jump w) := .quiet rfl rfl rfl rfl rfl

theorem Keeps.emit (s : State) (n : EngineNote) : Keeps s (s.emit n) := ⟨rfl, .emit s n, id, id⟩

theorem Keeps.poke (s : State) (a : Word) (v : Byte) : Keeps s (s.poke a v) := ⟨rfl, .poke s a v, s.poke_wf a v, id⟩

theorem Keeps.push (s : State) (v : Byte) : Keeps s (s.push v) where
  control := s.push_control v
  accounts := .push s v
  wf := s.push_wf v
  status h := ⟨(congrArg Flags.u (s.push_flags v)).trans h.1, (congrArg Flags.b (s.push_flags v)).trans h.2⟩

theorem Keeps.pull (s : State) : Keeps s s.pull where
  control := s.pull_control
  accounts := .pull s
  wf h := s.pull_mem ▸ h
  status h := ⟨(congrArg Flags.u s.pull_flags).trans h.1, (congrArg Flags.b s.pull_flags).trans h.2⟩

/-- R26, R27: a whole write of P forces U and B. -/
theorem Keeps.loadStatus (s : State) (v : Byte) : Keeps s (s.loadStatus v) where
  control := rfl
  accounts := .quiet rfl rfl
  wf := id
  status _ := ⟨congrArg Flags.u (s.loadStatus_flags v), congrArg Flags.b (s.loadStatus_flags v)⟩

theorem Keeps.setNZ (s : State) (r : Byte) : Keeps s (s.setNZ r) :=
  .quiet rfl rfl rfl (congrArg Flags.u (s.setNZ_flags r)) (congrArg Flags.b (s.setNZ_flags r))

theorem Keeps.setC (s : State) (v : Bool) : Keeps s (s.setC v) :=
  .quiet rfl rfl rfl (congrArg Flags.u (s.setC_flags v)) (congrArg Flags.b (s.setC_flags v))

/-- A meaning that `Answers` describes and that leaves memory and the bits U and B. -/
theorem Keeps.of_answers {s t : State} {r : Result} {regs : Regs} {flags : Flags} {writes : List (Word × Byte)}
    (h : Answers r s regs flags writes) (answer : r = .next t) (u : flags.u = s.flagU) (b : flags.b = s.flagB)
    (mem : t.mem = s.mem) : Keeps s t := by
  have accounts := Accounts.of_answers h answer
  obtain ⟨t', answer', -, flags', control, -, -, -⟩ := h
  cases answer.symm.trans answer'
  exact ⟨control, accounts, fun wf => mem ▸ wf, fun hs =>
    ⟨(congrArg Flags.u flags').trans (u.trans hs.1), (congrArg Flags.b flags').trans (b.trans hs.2)⟩⟩

/-! ## How an instruction ends -/

/-- The three ways an instruction ends (48_host_operations.md R240 steps 7 to 10): it completes, it halts after having
completed, or it is refused in decimal mode. -/
inductive Ends (s : State) : Result → Prop where
  | completes {t : State} : Keeps s t → Ends s (.next t)
  | halts {u : State} : Keeps s u → Ends s (.next (u.halt true))
  | refuses : s.flagD = true → Ends s (.next (s.refuse .decimalMode))

theorem addWithCarry_ends (src : Source) (s : State) : Ends s (addWithCarry src s) := by
  cases decimal : s.flagD with
  | true => exact addWithCarry_refuses s src decimal ▸ .refuses decimal
  | false =>
    have answer : addWithCarry src s = .next _ := if_neg (by simp [decimal])
    exact answer ▸ .completes (.of_answers (addWithCarry_answers s src decimal) answer rfl rfl rfl)

theorem subWithCarry_ends (src : Source) (s : State) : Ends s (subWithCarry src s) := by
  cases decimal : s.flagD with
  | true => exact subWithCarry_refuses s src decimal ▸ .refuses decimal
  | false =>
    have answer : subWithCarry src s = .next _ := if_neg (by simp [decimal])
    exact answer ▸ .completes (.of_answers (subWithCarry_answers s src decimal) answer rfl rfl rfl)

theorem pseudoOperation_ends (t : Byte) (s : State) : Ends s (pseudoOperation t s) := by
  have completed := (Keeps.emit s (.pseudoOp t)).trans (.complete _ 2)
  rw [pseudoOperation_eq]
  split
  · exact .halts completed
  · exact .completes completed

theorem Meaning.ends {s : State} {i : Instr} {r : Result} (h : Meaning s i r) : Ends s r := by
  cases h with
  | loadA _ src => exact .completes (.of_answers (loadA_answers s src) rfl rfl rfl rfl)
  | loadX _ src => exact .completes (.of_answers (loadX_answers s src) rfl rfl rfl rfl)
  | loadY _ src => exact .completes (.of_answers (loadY_answers s src) rfl rfl rfl rfl)
  | store _ v m => exact .completes ((Keeps.poke s _ v).trans (.complete _ m.length))
  | transferA _ v => exact .completes (.of_answers (transferA_answers s v) rfl rfl rfl rfl)
  | transferX _ v => exact .completes (.of_answers (transferX_answers s v) rfl rfl rfl rfl)
  | transferY _ v => exact .completes (.of_answers (transferY_answers s v) rfl rfl rfl rfl)
  | add _ src => exact addWithCarry_ends src s
  | sub _ src => exact subWithCarry_ends src s
  | compare _ reg src => exact .completes (.of_answers (compareWith_answers s reg src) rfl rfl rfl (by simp [State.compareFlags]))
  | modify _ f m => exact .completes (((Keeps.poke s _ _).trans (.setNZ _ _)).trans (.complete _ m.length))
  | logic _ r src => exact .completes (.of_answers (logicResult_answers s r src) rfl rfl rfl rfl)
  | bit _ src => exact .completes (.of_answers (bitTest_answers s src) rfl rfl rfl (by simp))
  | shiftA _ f => exact .completes (.of_answers (shiftRotate_acc_answers s f) rfl rfl rfl rfl)
  | shiftMem _ f m =>
    exact .completes ((((Keeps.poke s _ _).trans (.setC _ _)).trans (.setNZ _ _)).trans (.complete _ m.length))
  | branch _ cond d =>
    rw [branch_eq]
    cases cond
    · exact .completes (.complete s 2)
    · exact .completes (.jump s _)
  | jump _ target => exact .completes (.jump s target)
  | writeC _ v => exact .completes (.of_answers (setC_complete_answers s v) rfl rfl rfl rfl)
  | clv => exact .completes (.of_answers (execClv_answers s) rfl rfl rfl rfl)
  | nop => exact .completes (.complete s 1)
  | brk => exact .halts (.complete s 1)
  | pseudoOp t => exact pseudoOperation_ends t s
  | pha => exact .completes ((Keeps.push s _).trans (.complete _ 1))
  | php => exact .completes ((Keeps.push s _).trans (.complete _ 1))
  | pla =>
    have loaded : Keeps s.pull (s.pull.setA s.pulled) := .quiet rfl rfl rfl rfl rfl
    exact .completes ((((Keeps.pull s).trans loaded).trans (.setNZ _ _)).trans (.complete _ 1))
  | plp => exact .completes (((Keeps.pull s).trans (.loadStatus _ _)).trans (.complete _ 1))
  | jsr w => exact .completes (((Keeps.push s _).trans (.push _ _)).trans (.jump _ w))
  | rts => exact .completes (((Keeps.pull s).trans (.pull _)).trans (.jump _ _))
  | rti =>
    exact .completes (((((Keeps.pull s).trans (.loadStatus _ _)).trans (.pull _)).trans (.pull _)).trans (.jump _ _))
  | txs => exact .completes (.of_answers (execTxs_answers s) rfl rfl rfl rfl)
  | cli => exact .completes (.of_answers (setI_complete_answers s false) rfl rfl rfl rfl)
  | sei => exact .completes (.of_answers (setI_complete_answers s true) rfl rfl rfl rfl)
  | cld => exact .completes (.of_answers (setD_complete_answers s false) rfl rfl rfl rfl)
  | sed => exact .completes (.of_answers (setD_complete_answers s true) rfl rfl rfl rfl)

/-- Everything an instruction can do. -/
theorem exec_cases {i : Instr} {s t : State} (h : exec i s = .next t) :
    Keeps s t ∨ (∃ u, Keeps s u ∧ t = u.halt true) ∨ (s.flagD = true ∧ t = s.refuse .decimalMode) := by
  have ends := (exec_meaning i s).ends
  rw [h] at ends
  cases ends with
  | completes keeps => exact .inl keeps
  | halts keeps => exact .inr (.inl ⟨_, keeps, rfl⟩)
  | refuses decimal => exact .inr (.inr ⟨decimal, rfl⟩)

/-- Settles O38: completing keeps the control state, the halt writes `runState` and the refusal `refused`. -/
theorem instructionsLeaveEngineControlAlone : Obligations.InstructionsLeaveEngineControlAlone := by
  intro i s t h
  obtain keeps | ⟨u, keeps, rfl⟩ | ⟨decimal, rfl⟩ := exec_cases h
  · have runState : t.runState = s.runState := congrArg Control.runState keeps.control
    have refused : t.refused = s.refused := congrArg Control.refused keeps.control
    exact ⟨by rw [keeps.control, runState, refused]; rfl, .inl runState, .inl refused⟩
  · have refused : u.refused = s.refused := congrArg Control.refused keeps.control
    exact ⟨by rw [State.halt_control, keeps.control, State.halt_refused, refused]; rfl, .inr rfl, .inl refused⟩
  · exact ⟨rfl, .inl rfl, .inr ⟨decimal, rfl⟩⟩

/-! ## Who writes SP, I and D -/

/-- The lists of R23, R30 and R31, for one instruction that leads from `s` to `t`. -/
def ListedWritesOnly (i : Instr) (s t : State) : Prop :=
  (t.sp ≠ s.sp → i ∈ [Instr.pha, .php, .pla, .plp, .rts, .rti, .txs] ∨ ∃ w, i = .jsr w) ∧
  (t.flagI ≠ s.flagI → i ∈ [Instr.sei, .cli, .plp, .rti]) ∧
  (t.flagD ≠ s.flagD → i ∈ [Instr.sed, .cld, .plp, .rti])

/-- An instruction in no list. -/
theorem ListedWritesOnly.of_same (i : Instr) {s t : State} (sp : t.sp = s.sp) (flagI : t.flagI = s.flagI)
    (flagD : t.flagD = s.flagD) : ListedWritesOnly i s t := ⟨absurd sp, absurd flagI, absurd flagD⟩

theorem ListedWritesOnly.of_answers (i : Instr) {s t : State} {r : Result} {regs : Regs} {flags : Flags}
    {writes : List (Word × Byte)} (h : Answers r s regs flags writes) (answer : r = .next t) (sp : regs.sp = s.sp)
    (flagI : flags.i = s.flagI) (flagD : flags.d = s.flagD) : ListedWritesOnly i s t := by
  obtain ⟨t', answer', regs', flags', -⟩ := h
  cases answer.symm.trans answer'
  exact .of_same i ((congrArg Regs.sp regs').trans sp) ((congrArg Flags.i flags').trans flagI)
    ((congrArg Flags.d flags').trans flagD)

/-- ADC and SBC are in no list: what either answers keeps SP, I and D, whether it adds or is refused. -/
theorem ListedWritesOnly.add (i : Instr) {s t : State} {src : Source} (answer : addWithCarry src s = .next t) :
    ListedWritesOnly i s t := by
  cases decimal : s.flagD with
  | true =>
    cases (addWithCarry_refuses s src decimal).symm.trans answer
    exact .of_same i rfl rfl rfl
  | false => exact .of_answers i (addWithCarry_answers s src decimal) answer rfl rfl rfl

theorem ListedWritesOnly.sub (i : Instr) {s t : State} {src : Source} (answer : subWithCarry src s = .next t) :
    ListedWritesOnly i s t := by
  cases decimal : s.flagD with
  | true =>
    cases (subWithCarry_refuses s src decimal).symm.trans answer
    exact .of_same i rfl rfl rfl
  | false => exact .of_answers i (subWithCarry_answers s src decimal) answer rfl rfl rfl

theorem ListedWritesOnly.pseudoOp (i : Instr) {s t : State} {type : Byte} (answer : pseudoOperation type s = .next t) :
    ListedWritesOnly i s t := by
  rw [pseudoOperation_eq] at answer
  cases answer
  split <;> exact .of_same i (by simp) (by simp [State.flagI]) (by simp [State.flagD])

/-- An instruction in the list of R23 that keeps the flags. -/
theorem ListedWritesOnly.of_flags {i : Instr} {s t : State} (flags : t.flags = s.flags)
    (listed : i ∈ [Instr.pha, .php, .pla, .plp, .rts, .rti, .txs] ∨ ∃ w, i = .jsr w) : ListedWritesOnly i s t :=
  ⟨fun _ => listed, absurd (congrArg Flags.i flags), absurd (congrArg Flags.d flags)⟩

theorem Meaning.listedWritesOnly {i : Instr} {s t : State} {r : Result} (h : Meaning s i r) (answer : r = .next t) :
    ListedWritesOnly i s t := by
  cases h with
  | loadA _ src => exact .of_answers i (loadA_answers s src) answer rfl rfl rfl
  | loadX _ src => exact .of_answers i (loadX_answers s src) answer rfl rfl rfl
  | loadY _ src => exact .of_answers i (loadY_answers s src) answer rfl rfl rfl
  | store _ v m => exact .of_answers i (store_answers s v m) answer rfl rfl rfl
  | transferA _ v => exact .of_answers i (transferA_answers s v) answer rfl rfl rfl
  | transferX _ v => exact .of_answers i (transferX_answers s v) answer rfl rfl rfl
  | transferY _ v => exact .of_answers i (transferY_answers s v) answer rfl rfl rfl
  | add _ src => exact .add i answer
  | sub _ src => exact .sub i answer
  | compare _ reg src => exact .of_answers i (compareWith_answers s reg src) answer rfl rfl rfl
  | modify _ f m => exact .of_answers i (modifyMem_answers s f m) answer rfl rfl rfl
  | logic _ r src => exact .of_answers i (logicResult_answers s r src) answer rfl rfl rfl
  | bit _ src => exact .of_answers i (bitTest_answers s src) answer rfl rfl rfl
  | shiftA _ f => exact .of_answers i (shiftRotate_acc_answers s f) answer rfl rfl rfl
  | shiftMem _ f m => exact .of_answers i (shiftRotate_mem_answers s f m) answer rfl rfl rfl
  | branch _ cond d => exact .of_answers i (branch_answers s cond d) answer rfl rfl rfl
  | jump _ target => cases answer; exact .of_same i rfl rfl rfl
  | writeC _ v => exact .of_answers i (setC_complete_answers s v) answer rfl rfl rfl
  | clv => exact .of_answers .clv (execClv_answers s) answer rfl rfl rfl
  | nop => exact .of_answers .nop (execNop_answers s) answer rfl rfl rfl
  | brk => cases answer; exact .of_same .brk (by simp) (by simp [State.flagI]) (by simp [State.flagD])
  | pseudoOp type => exact .pseudoOp (.pseudoOp type) answer
  | pha => cases answer; exact .of_flags (by simp) (by simp)
  | php => cases answer; exact .of_flags (by simp) (by simp)
  | pla =>
    cases answer
    have flags := (s.pull.setA s.pulled).setNZ_flags s.pulled
    rw [State.setA_flags, State.pull_flags] at flags
    exact ⟨fun _ => .inl (by simp), absurd (congrArg Flags.i flags), absurd (congrArg Flags.d flags)⟩
  | plp => exact ⟨fun _ => .inl (by simp), fun _ => by simp, fun _ => by simp⟩
  | jsr w => cases answer; exact .of_flags (by simp) (.inr ⟨w, rfl⟩)
  | rts => cases answer; exact .of_flags (by simp) (by simp)
  | rti => exact ⟨fun _ => .inl (by simp), fun _ => by simp, fun _ => by simp⟩
  | txs => cases answer; exact .of_flags rfl (by simp)
  | cli =>
    cases answer
    exact ⟨absurd rfl, fun _ => by simp, absurd (congrArg Flags.d (s.setI_flags false))⟩
  | sei =>
    cases answer
    exact ⟨absurd rfl, fun _ => by simp, absurd (congrArg Flags.d (s.setI_flags true))⟩
  | cld =>
    cases answer
    exact ⟨absurd rfl, absurd (congrArg Flags.i (s.setD_flags false)), fun _ => by simp⟩
  | sed =>
    cases answer
    exact ⟨absurd rfl, absurd (congrArg Flags.i (s.setD_flags true)), fun _ => by simp⟩

/-- Settles O39: each meaning writes SP, I and D only for an instruction of the list. -/
theorem onlyListedInstructionsWriteSpIAndD : Obligations.OnlyListedInstructionsWriteSpIAndD :=
  fun i s _ h => (exec_meaning i s).listedWritesOnly h

end Sys2Proof.Machine
end

section
/-! PROOF. Arithmetic, shifts and rotates (43_arithmetic.md R159 to R168, 45_shift_rotate.md R189 to R193): the rules' sums
and quotients against the model's add core and shifts of bytes. Each proof walks the list of the family's forms. -/

namespace Sys2Proof.Machine

/-! ## ADC and SBC -/

/-- R158: the overflow output, as the range that the signed sum leaves. -/
theorem addC_overflow_eq (a m : Byte) (c : Bool) :
    (addC a m c).overflow =
      decide (a.toInt + m.toInt + (c.toNat : Int) < -128 ∨ 127 < a.toInt + m.toInt + (c.toNat : Int)) := by
  rw [Bool.eq_iff_iff, addC_overflow_iff_signed, decide_eq_true_iff]
  omega

/-- R160: ADC with D = 0, its overflow as the signed range. -/
theorem addWithCarry_answers_sum (s : State) (src : Source) (binary : s.flagD = false) :
    let m := src.value s
    let r : Byte := BitVec.ofNat 8 (s.a.toNat + m.toNat + s.flagC.toNat)
    let signed : Int := s.a.toInt + m.toInt + (s.flagC.toNat : Int)
    Answers (addWithCarry src s) s { s.regs with a := r, pc := s.pc + BitVec.ofNat 16 src.length }
      { s.flags with n := r.getLsbD 7, v := decide (signed < -128 ∨ 127 < signed), z := decide (r = 0),
                     c := decide (255 < s.a.toNat + m.toNat + s.flagC.toNat) } [] := by
  have answers := addWithCarry_answers s src binary
  simp only [addC_overflow_eq] at answers
  exact answers

/-- Settles O10: the eight forms of ADC answer as `addWithCarry`. -/
theorem adcAddsWithCarry : Obligations.AdcAddsWithCarry := by
  intro s v z w i op src form
  iterate 8
    obtain _ | ⟨_, form⟩ := form
    · exact ⟨fun _ => rfl, addWithCarry_answers_sum s _⟩
  cases form

/-- The complement of a byte as a number. -/
theorem not_toNat (m : Byte) : (~~~m).toNat = 255 - m.toNat := by
  rw [BitVec.toNat_not]

/-- The complement of a byte as a signed number. -/
theorem not_toInt (m : Byte) : (~~~m).toInt = -m.toInt - 1 := by
  rw [BitVec.toInt_not, BitVec.toInt_eq_toNat_bmod]
  have := m.isLt
  simp only [Int.bmod_def]
  omega

/-- R161: adding the complement is subtracting with borrow: result, no-borrow carry and signed overflow. -/
theorem addC_not (a m : Byte) (c : Bool) :
    (addC a (~~~m) c).result = BitVec.ofInt 8 ((a.toNat : Int) - (m.toNat : Int) - (1 - (c.toNat : Int))) ∧
    (addC a (~~~m) c).carry = decide (0 ≤ (a.toNat : Int) - (m.toNat : Int) - (1 - (c.toNat : Int))) ∧
    (addC a (~~~m) c).overflow =
      decide (a.toInt - m.toInt - (1 - (c.toNat : Int)) < -128 ∨ 127 < a.toInt - m.toInt - (1 - (c.toNat : Int))) := by
  have hm := m.isLt
  refine ⟨?_, ?_, ?_⟩
  · apply BitVec.eq_of_toNat_eq
    rw [addC_result_toNat, not_toNat, BitVec.toNat_ofInt]
    have := c.toNat_le
    omega
  · simp only [addC, not_toNat, decide_eq_decide]
    omega
  · simp only [addC_overflow_eq, not_toInt, decide_eq_decide]
    omega

/-- R161: SBC with D = 0, as a difference. -/
theorem subWithCarry_answers_difference (s : State) (src : Source) (binary : s.flagD = false) :
    let m := src.value s
    let diff : Int := (s.a.toNat : Int) - (m.toNat : Int) - (1 - (s.flagC.toNat : Int))
    let signed : Int := s.a.toInt - m.toInt - (1 - (s.flagC.toNat : Int))
    let r : Byte := BitVec.ofInt 8 diff
    Answers (subWithCarry src s) s { s.regs with a := r, pc := s.pc + BitVec.ofNat 16 src.length }
      { s.flags with n := r.getLsbD 7, v := decide (signed < -128 ∨ 127 < signed), z := decide (r = 0),
                     c := decide (0 ≤ diff) } [] := by
  have answers := subWithCarry_answers s src binary
  obtain ⟨result, carry, overflow⟩ := addC_not s.a (src.value s) s.flagC
  simp only [result, carry, overflow] at answers
  exact answers

/-- Settles O11: the eight forms of SBC answer as `subWithCarry`. -/
theorem sbcSubtractsWithBorrow : Obligations.SbcSubtractsWithBorrow := by
  intro s v z w i op src form
  iterate 8
    obtain _ | ⟨_, form⟩ := form
    · exact ⟨fun _ => rfl, subWithCarry_answers_difference s _⟩
  cases form

/-- Settles O12: the eight forms of ADC and the eight of SBC are refused before anything is read or written. -/
theorem decimalArithmeticIsRefused : Obligations.DecimalArithmeticIsRefused := by
  intro s v z w i form decimal
  iterate 8
    obtain _ | ⟨_, form⟩ := form
    · exact addWithCarry_refuses s _ decimal
  iterate 8
    obtain _ | ⟨_, form⟩ := form
    · exact subWithCarry_refuses s _ decimal
  cases form

/-! ## INC and DEC -/

/-- R165, R168: INC and DEC, their result as a number modulo 256. -/
theorem modifyMem_answers_number (s : State) {f : Byte → Byte} {k : Nat}
    (number : ∀ v, f v = BitVec.ofNat 8 (v.toNat + k)) (m : MemMode) :
    let r : Byte := BitVec.ofNat 8 ((s.peek (m.ea s)).toNat + k)
    Answers (modifyMem f m s) s { s.regs with pc := s.pc + BitVec.ofNat 16 m.length }
      { s.flags with n := r.getLsbD 7, z := decide (r = 0) } [(m.ea s, r)] := by
  have answers := modifyMem_answers s f m
  rw [number] at answers
  exact answers

/-- Settles O14: the four forms of INC add 1, the four of DEC take 1 away, which is adding 255. -/
theorem incAndDecModifyMemory : Obligations.IncAndDecModifyMemory := by
  intro s z w i op m k form
  have inc := modifyMem_answers_number s (f := fun v => v + 1) (fun v => (ofNat_toNat_add v 1).symm)
  have dec := modifyMem_answers_number s (f := fun v => v - 1) (fun v => (ofNat_toNat_add_255 v).symm)
  iterate 4
    obtain _ | ⟨_, form⟩ := form
    · exact ⟨fun _ => rfl, inc _⟩
  iterate 4
    obtain _ | ⟨_, form⟩ := form
    · exact ⟨fun _ => rfl, dec _⟩
  cases form

/-! ## Shifts and rotates -/

/-- The model's operation on a byte and the carry in (R190 to R193). -/
def ShiftOp.onByte : ShiftOp → Byte → Bool → ShiftOut
  | .asl => aslByte
  | .lsr => lsrByte
  | .rol => rolByte
  | .ror => rorByte

/-- R190 to R193: the carry out is the bit that the rule names. -/
theorem ShiftOp.onByte_carry (f : ShiftOp) (v : Byte) (c : Bool) : (f.onByte v c).carry = v.getLsbD f.outBit := by
  cases f <;> rfl

/-- R190, R192: a left shift with the carry put in at bit 0 is doubling and adding the carry. -/
theorem shiftLeft_or_carry (v : Byte) (c : Bool) :
    (v <<< 1) ||| (if c then 0x01 else 0x00) = BitVec.ofNat 8 (2 * v.toNat + c.toNat) := by
  have disjoint : (v <<< 1) &&& (if c then 0x01 else 0x00) = 0 := by
    ext k hk
    cases c <;> cases k <;> simp
  rw [← BitVec.add_eq_or_of_and_eq_zero _ _ disjoint]
  cases c <;> simp <;> bv_omega

/-- R191, R193: a right shift with the carry put in at bit 7 is halving and adding 128 times the carry. -/
theorem shiftRight_or_carry (v : Byte) (c : Bool) :
    (v >>> 1) ||| (if c then 0x80 else 0x00) = BitVec.ofNat 8 (v.toNat / 2 + 128 * c.toNat) := by
  have mask : (0x80 : Byte) = BitVec.twoPow 8 7 := by decide
  have disjoint : (v >>> 1) &&& (if c then 0x80 else 0x00) = 0 := by
    cases c <;> simp [mask, BitVec.and_twoPow]
  rw [← BitVec.add_eq_or_of_and_eq_zero _ _ disjoint]
  cases c <;> simp <;> bv_omega

/-- R190 to R193: the result is the rule's arithmetic modulo 256. -/
theorem ShiftOp.onByte_result (f : ShiftOp) (v : Byte) (c : Bool) :
    (f.onByte v c).result = BitVec.ofNat 8 (f.arith v.toNat c.toNat) := by
  cases f with
  | asl => simpa [ShiftOp.onByte, aslByte, ShiftOp.arith] using shiftLeft_or_carry v false
  | lsr => simpa [ShiftOp.onByte, lsrByte, ShiftOp.arith] using shiftRight_or_carry v false
  | rol => exact shiftLeft_or_carry v c
  | ror => exact shiftRight_or_carry v c

/-- Settles O18: the four forms answer as `shiftRotate` on A, each with its own operation. -/
theorem shiftsAndRotatesOfA : Obligations.ShiftsAndRotatesOfA := by
  intro s i op f form
  have answers := shiftRotate_acc_answers s f.onByte
  simp only [f.onByte_carry, f.onByte_result] at answers
  iterate 4
    obtain _ | ⟨_, form⟩ := form
    · exact ⟨fun _ => rfl, answers⟩
  cases form

/-- Settles O19: the sixteen forms answer as `shiftRotate` on memory, each with its own operation and mode. -/
theorem shiftsAndRotatesOfMemory : Obligations.ShiftsAndRotatesOfMemory := by
  intro s z w i op m f form
  have answers := shiftRotate_mem_answers s f.onByte m
  simp only [f.onByte_carry, f.onByte_result] at answers
  iterate 16
    obtain _ | ⟨_, form⟩ := form
    · exact ⟨fun _ => rfl, answers⟩
  cases form

/-! ## Nine rotates -/

/-- The ring of nine bits that ROL and ROR turn (R192): bits 0 to 7 of A, and C as bit 8. -/
def State.ringBit (s : State) (k : Nat) : Bool := if k = 8 then s.flagC else s.a.getLsbD k

/-- The instruction turns the ring: bit `k` takes the place of bit `k + d` modulo 9. -/
def TurnsRing (i : Instr) (d : Nat) : Prop :=
  ∀ s, ∃ t, exec i s = .next t ∧ ∀ k, k < 9 → t.ringBit k = s.ringBit ((k + d) % 9)

/-- What a rotate of A leaves in the ring. -/
theorem ringBit_of_shiftRotate {s t : State} {f : Byte → Bool → ShiftOut} (answer : shiftRotate f .acc s = .next t)
    (k : Nat) : t.ringBit k = if k = 8 then (f s.a s.flagC).carry else (f s.a s.flagC).result.getLsbD k := by
  obtain ⟨t', answer', regs, flags, -⟩ := shiftRotate_acc_answers s f
  cases answer.symm.trans answer'
  have a : t.a = (f s.a s.flagC).result := congrArg Regs.a regs
  have c : t.flagC = (f s.a s.flagC).carry := congrArg Flags.c flags
  rw [State.ringBit, a, c]

/-- R192: ROL moves every bit one place up, which is eight places down. -/
theorem rolAcc_turnsRing : TurnsRing .rolAcc 8 := by
  refine fun s => ⟨_, rfl, fun k hk => ?_⟩
  rw [ringBit_of_shiftRotate (f := rolByte) rfl]
  match k, hk with
  | 0, _ | 1, _ | 2, _ | 3, _ | 4, _ | 5, _ | 6, _ | 7, _ | 8, _ => cases c : s.flagC <;> simp [State.ringBit, rolByte, c]

/-- R193: ROR moves every bit one place down. -/
theorem rorAcc_turnsRing : TurnsRing .rorAcc 1 := by
  refine fun s => ⟨_, rfl, fun k hk => ?_⟩
  rw [ringBit_of_shiftRotate (f := rorByte) rfl]
  match k, hk with
  | 0, _ | 1, _ | 2, _ | 3, _ | 4, _ | 5, _ | 6, _ | 7, _ | 8, _ => cases c : s.flagC <;> simp [State.ringBit, rorByte, c]

/-- The state after `n` turns. -/
def turnedBy (next : State → State) (s : State) : Nat → State
  | 0 => s
  | n + 1 => next (turnedBy next s n)

/-- Nine turns by any number of places bring every bit back. -/
theorem TurnsRing.nine {i : Instr} {d : Nat} (turns : TurnsRing i d) (s : State) :
    ∃ t : Nat → State, t 0 = s ∧ (∀ k, k < 9 → exec i (t k) = .next (t (k + 1))) ∧
      (t 9).a = s.a ∧ (t 9).flagC = s.flagC := by
  obtain ⟨next, turns⟩ := Classical.axiomOfChoice turns
  have turned (n k : Nat) (hk : k < 9) : (turnedBy next s n).ringBit k = s.ringBit ((k + n * d) % 9) := by
    induction n generalizing k with
    | zero => rw [turnedBy, Nat.zero_mul, Nat.add_zero, Nat.mod_eq_of_lt hk]
    | succ n ih =>
      rw [turnedBy, (turns _).2 k hk, ih _ (Nat.mod_lt _ (by decide))]
      congr 1
      rw [Nat.mod_add_mod, Nat.succ_mul]
      congr 1
      omega
  have back (k : Nat) (hk : k < 9) : (turnedBy next s 9).ringBit k = s.ringBit k := by
    rw [turned 9 k hk]
    congr 1
    omega
  refine ⟨turnedBy next s, rfl, fun k _ => (turns _).1, BitVec.eq_of_getLsbD_eq fun k hk => ?_, back 8 (by decide)⟩
  · have bit := back k (by omega)
    rwa [State.ringBit, State.ringBit, if_neg (by omega), if_neg (by omega)] at bit

/-- Settles O20: ROL and ROR turn the ring by eight places and by one. -/
theorem nineRotatesGiveBackAAndCarry : Obligations.NineRotatesGiveBackAAndCarry := by
  intro s i form
  obtain _ | ⟨_, _ | ⟨_, beyond⟩⟩ := form
  · exact rolAcc_turnsRing.nine s
  · exact rorAcc_turnsRing.nine s
  · cases beyond

end Sys2Proof.Machine
end

section
/-! PROOF. The stack, jumps and branches (42_stack.md, 46_control.md, 47_flags_system.md R228 to R230) over `push` and
`pull`. Several pulls in a row emit at most one warning between them, since SP passes 0xFF only once. -/

namespace Sys2Proof.Machine

/-! ## Push -/

/-- What one push and completing answers (R11, R150, R151). -/
theorem push_complete_answers (s : State) (v : Byte) :
    AnswersOnStack (.next ((s.push v).complete 1)) s { s.regs with sp := s.sp - 1, pc := s.pc + 1 } s.flags
      [(wordOf 0x01 s.sp, v)]
      (fun text => .changed (wordOf 0x01 s.sp) v :: warnIf (decide (s.sp = 0x00)) s.snapshot text) :=
  ⟨_, Config.messageText (s.events.length + 1), rfl, by simp, by simp, by simp, by simp,
    fun a => by rw [State.complete_peek, State.push_peek, afterWrites_one]; rfl, s.push_events v⟩

/-- Settles O5: PHA pushes A, PHP the image of P. -/
theorem phaAndPhpPush : Obligations.PhaAndPhpPush := by
  intro s i op v form
  obtain _ | ⟨_, _ | ⟨_, beyond⟩⟩ := form
  · exact ⟨fun _ => rfl, push_complete_answers s s.a⟩
  · exact ⟨fun _ => rfl, push_complete_answers s s.statusImage⟩
  · cases beyond

/-! ## Pull -/

/-- Settles O6: the pull's byte goes to A and to N and Z. -/
theorem plaPullsA : Obligations.PlaPullsA := fun s => by
  refine ⟨fun _ => rfl, ?_⟩
  rw [← State.pulled_eq]
  exact ⟨_, Config.messageText s.events.length, rfl, by simp, by simp, by simp, by simp, fun a => by simp, s.pull_events⟩

/-- Settles O7: the pull's byte goes to P, with U and B forced. -/
theorem plpPullsStatus : Obligations.PlpPullsStatus := fun s => by
  refine ⟨fun _ => rfl, ?_⟩
  rw [← State.pulled_eq]
  exact ⟨_, Config.messageText s.events.length, rfl, by simp, by simp, by simp, by simp, fun a => by simp, s.pull_events⟩

/-- R11: a pull right after a push reads the byte pushed. -/
theorem pulled_push_complete (s : State) (v : Byte) (n : Nat) : ((s.push v).complete n).pulled = v := by
  rw [State.pulled_eq, State.complete_peek, State.complete_sp, State.push_sp, State.push_peek, BitVec.sub_add_cancel]
  exact if_pos rfl

/-- R151, R153: P loaded with the image that PHP pushes, where U = 1 and B = 0. -/
theorem loadStatus_statusImage_flags (s t : State) (u : s.flagU = true) (b : s.flagB = false) :
    (t.loadStatus s.statusImage).flags = s.flags := by
  rw [State.loadStatus_flags]
  simp [State.statusImage, State.flags, u, b, State.flagN, State.flagV, State.flagD, State.flagI, State.flagZ, State.flagC]

/-- Settles O8: the byte pulled is the byte pushed, SP is back, and each instruction advances pc by 1. -/
theorem pushThenPullRestores : Obligations.PushThenPullRestores := by
  intro s
  refine ⟨⟨_, _, rfl, rfl, ?_, ?_⟩, fun u b => ⟨_, _, rfl, rfl, ?_, ?_⟩⟩
  · simp [State.regs, pulled_push_complete, BitVec.add_assoc, BitVec.sub_add_cancel]
  · simp [pulled_push_complete]
  · simp [State.regs, BitVec.add_assoc, BitVec.sub_add_cancel]
  · rw [pulled_push_complete, State.complete_flags, loadStatus_statusImage_flags s _ u b]

/-! ## Warnings in a row -/

/-- Two warnings under equal conditions, equal where they are emitted. -/
theorem warnIf_congr {b b' : Bool} {r r' : Snapshot} (text : String) (cond : b = b') (same : b = true → r = r') :
    warnIf b r text = warnIf b' r' text := by
  subst cond
  cases b with
  | false => rfl
  | true => rw [same rfl]

theorem State.pull_snapshot (s : State) : s.pull.snapshot = { s.snapshot with sp := s.sp + 1 } := by
  simp [State.snapshot]

theorem State.push_snapshot (s : State) (v : Byte) : (s.push v).snapshot = { s.snapshot with sp := s.sp - 1 } := by
  simp [State.snapshot]

theorem State.pull_events_of_ne {s : State} (h : s.sp ≠ 0xFF) : s.pull.events = s.events := by
  rw [State.pull_events, decide_eq_false h, warnIf_false, List.append_nil]

theorem State.push_events_of_ne {s : State} (v : Byte) (h : s.sp ≠ 0x00) :
    (s.push v).events = s.events ++ [.changed (wordOf 0x01 s.sp) v] := by
  rw [State.push_events, decide_eq_false h, warnIf_false]
  rfl

/-- R322: two pulls in a row emit one warning, where SP passes 0xFF, or none. -/
theorem pull_pull_events (s : State) :
    ∃ text, s.pull.pull.events =
      s.events ++ warnIf (decide (s.sp = 0xFE ∨ s.sp = 0xFF)) { s.snapshot with sp := 0xFF } text := by
  refine ⟨Config.messageText s.events.length, ?_⟩
  by_cases first : s.sp = 0xFF
  · have second : s.pull.sp ≠ 0xFF := by rw [State.pull_sp, first]; decide
    rw [State.pull_events_of_ne second, State.pull_events]
    refine congrArg _ (warnIf_congr _ ?_ fun _ => ?_)
    · simp [first]
    · simp [first, State.snapshot]
  · have second : s.sp + 1 = 0xFF ↔ s.sp = 0xFE := by bv_omega
    rw [State.pull_events, State.pull_events_of_ne first, State.pull_sp, State.pull_snapshot]
    refine congrArg _ (warnIf_congr _ ?_ fun wraps => ?_)
    · simp only [second, first, or_false]
    · rw [of_decide_eq_true wraps]

/-- R322: the two pushes of JSR emit one warning, behind the write that takes SP below 0x00, or none. -/
theorem push_push_events (s : State) (v w : Byte) :
    ∃ text, ((s.push v).push w).events =
      s.events ++ .changed (wordOf 0x01 s.sp) v :: (warnIf (decide (s.sp = 0x00)) s.snapshot text ++
        .changed (wordOf 0x01 (s.sp - 1)) w :: warnIf (decide (s.sp = 0x01)) { s.snapshot with sp := 0x00 } text) := by
  have stackAddr : (s.push v).stackAddr = wordOf 0x01 (s.sp - 1) := congrArg (wordOf 0x01) (s.push_sp v)
  by_cases first : s.sp = 0x00
  · refine ⟨Config.messageText (s.events.length + 1), ?_⟩
    have second : (s.push v).sp ≠ 0x00 := by rw [State.push_sp, first]; decide
    have third : s.sp ≠ 0x01 := by rw [first]; decide
    rw [State.push_events_of_ne w second, State.push_events, State.push_sp, decide_eq_false third, warnIf_false,
      List.append_assoc]
    rfl
  · refine ⟨Config.messageText ((s.push v).events.length + 1), ?_⟩
    have second : s.sp - 1 = 0x00 ↔ s.sp = 0x01 := by bv_omega
    have warning (text : String) : warnIf (decide (s.sp - 1 = 0x00)) (s.push v).snapshot text =
        warnIf (decide (s.sp = 0x01)) { s.snapshot with sp := 0x00 } text := by
      refine warnIf_congr text (by simp only [second]) fun wraps => ?_
      rw [State.push_snapshot, of_decide_eq_true wraps]
    rw [State.push_events, State.push_sp, warning, stackAddr, State.push_events_of_ne v first, decide_eq_false first,
      warnIf_false, List.append_assoc]
    rfl

/-! ## Calls and returns -/

/-- R201: the two bytes that JSR pushes have different addresses. -/
theorem wordOf_right_inj (hi a b : Byte) : wordOf hi a = wordOf hi b ↔ a = b :=
  ⟨fun h => by simpa using congrArg loByte h, fun h => h ▸ rfl⟩

/-- Settles O22: the two pushes write and warn, and the jump writes pc. -/
theorem jsrPushesReturnAddress : Obligations.JsrPushesReturnAddress := by
  intro s w
  obtain ⟨text, events⟩ := push_push_events s (hiByte (s.pc + 2)) (loByte (s.pc + 2))
  exact ⟨fun _ => rfl, _, text, rfl, by simp [BitVec.sub_sub], by simp, by simp, by simp,
    callSubroutine_peek s w rfl, events⟩

/-- R11: the value of a second pull. -/
theorem pulled_pull (s : State) : s.pull.pulled = s.peek (wordOf 0x01 (s.sp + 2)) := by
  rw [State.pulled_eq, State.pull_peek, State.pull_sp, BitVec.add_assoc]
  rfl

/-- Settles O23: RTS. -/
theorem rtsPullsReturnAddress : Obligations.RtsPullsReturnAddress := by
  intro s
  obtain ⟨text, events⟩ := pull_pull_events s
  exact ⟨fun _ => rfl, _, text, rfl, by simp [State.pulled_eq, BitVec.add_assoc], by simp, by simp, by simp,
    fun a => by simp, events⟩

/-- R201: the return address as JSR leaves it on the stack, seen from the SP it leaves. -/
theorem callSubroutine_stack {s t : State} {target : Word} (h : callSubroutine target s = .next t) :
    t.sp + 1 = s.sp - 1 ∧ t.sp + 2 = s.sp ∧ t.peek (wordOf 0x01 (t.sp + 1)) = loByte (s.pc + 2) ∧
    t.peek (wordOf 0x01 (t.sp + 2)) = hiByte (s.pc + 2) := by
  have bytes := callSubroutine_peek s target h
  cases h
  have one : s.sp - 1 - 1 + 1 = s.sp - 1 := BitVec.sub_add_cancel _ _
  have two : s.sp - 1 - 1 + 2 = s.sp := by bv_omega
  have apart : s.sp ≠ s.sp - 1 := by bv_omega
  simp only [State.jump_sp, State.push_sp, one, two, bytes, afterWrites_two, wordOf_right_inj, apart, if_true, if_false,
    and_self]

/-- Settles O24: RTS reads back the two bytes that JSR wrote, and adds 1 to the address they make. -/
theorem callThenReturnComesBack : Obligations.CallThenReturnComesBack := by
  intro s w
  refine ⟨_, rfl, fun u sp kept => ⟨_, rfl, ?_⟩⟩
  obtain ⟨-, spBack, low, high⟩ := callSubroutine_stack (s := s) (target := w) rfl
  have pulledLow : u.pulled = loByte (s.pc + 2) := by
    rw [State.pulled_eq, sp, kept _ (.inl rfl), low]
  have pulledHigh : u.pull.pulled = hiByte (s.pc + 2) := by
    rw [pulled_pull, sp, kept _ (.inr rfl), high]
  refine ⟨?_, ?_, by simp, by simp, by simp, by simp⟩
  · rw [State.jump_pc, pulledLow, pulledHigh, wordOf_hiByte_loByte, BitVec.add_assoc]
    rfl
  · rw [State.jump_sp, State.pull_sp, State.pull_sp, sp, BitVec.add_assoc]
    exact spBack

/-- R229, R322: the three pulls of RTI emit one warning, or none; P is the old one at the first pull and the new one
after it. -/
theorem pull_loadStatus_pull_pull_events (s : State) (v : Byte) :
    ∃ text, (s.pull.loadStatus v).pull.pull.events =
      s.events ++ warnIf (decide (s.sp = 0xFD ∨ s.sp = 0xFE ∨ s.sp = 0xFF))
        { s.snapshot with sp := 0xFF, p := if s.sp = 0xFF then s.p else (v &&& 0xCF) ||| 0x20 } text := by
  obtain ⟨text, later⟩ := pull_pull_events (s.pull.loadStatus v)
  rw [State.loadStatus_events, State.loadStatus_sp, State.pull_sp] at later
  by_cases first : s.sp = 0xFF
  · refine ⟨Config.messageText s.events.length, ?_⟩
    have quiet : ¬ (s.sp + 1 = 0xFE ∨ s.sp + 1 = 0xFF) := by rw [first]; decide
    rw [later, decide_eq_false quiet, warnIf_false, List.append_nil, State.pull_events]
    refine congrArg _ (warnIf_congr _ ?_ fun _ => ?_)
    · simp [first]
    · simp [first, State.snapshot]
  · refine ⟨text, ?_⟩
    have second : s.sp + 1 = 0xFE ↔ s.sp = 0xFD := by bv_omega
    have third : s.sp + 1 = 0xFF ↔ s.sp = 0xFE := by bv_omega
    rw [later, State.pull_events_of_ne first]
    refine congrArg _ (warnIf_congr _ ?_ fun _ => ?_)
    · simp only [second, third, first, or_false]
    · have p : (s.pull.loadStatus v).p = (v &&& 0xCF) ||| 0x20 := rfl
      simp only [State.snapshot, p, if_neg first, State.loadStatus_a, State.loadStatus_x, State.loadStatus_y,
        State.loadStatus_pc, State.pull_a, State.pull_x, State.pull_y, State.pull_pc]

/-- Settles O28: RTI. -/
theorem rtiPullsStatusAndPc : Obligations.RtiPullsStatusAndPc := by
  intro s
  obtain ⟨text, events⟩ := pull_loadStatus_pull_pull_events s s.pulled
  rw [← State.pulled_eq]
  refine ⟨fun _ => rfl, _, text, rfl, ?_, by simp, by simp, by simp, fun a => by simp, (State.jump_events _ _).trans events⟩
  simp [State.pulled_eq, BitVec.add_assoc]

end Sys2Proof.Machine
end

section
/-! PROOF. Jumps and branches (46_control.md R200 to R211), BRK and the pseudo-op (47_flags_system.md R228, R230), and the
addresses they and the zero-page modes compute (30_encoding.md R86 to R94). -/

namespace Sys2Proof.Machine

/-! ## Jumps -/

/-- R8: a jump answers with pc alone changed. -/
theorem jump_answers (s : State) {target pc : Word} (h : target = pc) :
    Answers (.next (s.jump target)) s { s.regs with pc := pc } s.flags [] :=
  answers_quiet s rfl (h ▸ rfl) rfl rfl rfl rfl rfl

/-- Masking a word with 0x00FF keeps its low byte. -/
theorem and_lowMask_toNat (w : Word) : (w &&& 0x00FF).toNat = w.toNat % 256 := by
  rw [BitVec.toNat_and]
  exact Nat.and_two_pow_sub_one_eq_mod w.toNat 8

/-- The high half of a word and the low half of another have no bit in common. -/
theorem highMask_and_lowMask (w v : Word) : (w &&& 0xFF00) &&& (v &&& 0x00FF) = 0 := by
  have apart : (0xFF00 : Word) &&& 0x00FF = 0#16 := by decide
  calc (w &&& 0xFF00) &&& (v &&& 0x00FF) = (w &&& v) &&& (0xFF00 &&& 0x00FF) := by ac_rfl
    _ = 0#16 := by rw [apart, BitVec.and_zero]

/-- A word is the sum of its halves. -/
theorem highMask_add_lowMask (w : Word) : (w &&& 0xFF00) + (w &&& 0x00FF) = w := by
  have whole : (0xFF00 : Word) ||| 0x00FF = BitVec.allOnes 16 := by decide
  rw [BitVec.add_eq_or_of_and_eq_zero _ _ (highMask_and_lowMask w w), ← BitVec.and_or_distrib_left, whole,
    BitVec.and_allOnes]

/-- R91: the next address within the page. -/
theorem nextInPage_eq (w : Word) :
    (w &&& 0xFF00) ||| ((w + 1) &&& 0x00FF) = if w.toNat % 256 = 255 then w - 255 else w + 1 := by
  rw [← BitVec.add_eq_or_of_and_eq_zero _ _ (highMask_and_lowMask w (w + 1))]
  have halves := highMask_add_lowMask w
  have low := and_lowMask_toNat w
  have next := and_lowMask_toNat (w + 1)
  generalize w &&& 0xFF00 = high at *
  generalize w &&& 0x00FF = l at *
  generalize (w + 1) &&& 0x00FF = l' at *
  split <;> bv_omega

/-- R91: the target of an indirect jump, under either value of JMP_IND_PAGE_WRAP. -/
theorem State.indirectTarget_eq (s : State) (w : Word) :
    s.indirectTarget w =
      wordOf (s.peek (if s.params.jmpIndPageWrap = true ∧ w.toNat % 256 = 255 then w - 255 else w + 1)) (s.peek w) := by
  unfold State.indirectTarget
  cases s.params.jmpIndPageWrap with
  | false => rfl
  | true => rw [if_pos rfl, nextInPage_eq]; simp

/-- Settles O21: either form of JMP is a jump, to its operand or to the indirect target. -/
theorem jmpSetsPc : Obligations.JmpSetsPc := fun s w =>
  ⟨fun _ => ⟨rfl, rfl⟩, jump_answers s rfl, jump_answers s (s.indirectTarget_eq w)⟩

/-! ## Branches -/

/-- R94: the target of a taken branch, with the displacement as a signed number. -/
theorem add_sext16_eq (pc : Word) (d : Byte) :
    pc + 2 + sext16 d = BitVec.ofInt 16 ((pc.toNat : Int) + 2 + d.toInt) := by
  rw [BitVec.ofInt_add, BitVec.ofInt_add, BitVec.ofInt_natCast, BitVec.ofNat_toNat, BitVec.setWidth_eq]
  rfl

/-- R203: the branch frame. -/
theorem branch_answers_signed (s : State) (cond : Bool) (d : Byte) :
    Answers (branch cond d s) s
      { s.regs with pc := if cond then BitVec.ofInt 16 ((s.pc.toNat : Int) + 2 + d.toInt) else s.pc + 2 } s.flags [] :=
  add_sext16_eq s.pc d ▸ branch_answers s cond d

/-- Settles O25: each of the eight branches is the branch frame on its own flag. -/
theorem branchesTestOneFlag : Obligations.BranchesTestOneFlag := by
  intro s d i op cond form
  iterate 8
    obtain _ | ⟨_, form⟩ := form
    · exact ⟨fun _ => rfl, branch_answers_signed s _ d⟩
  cases form

/-! ## Halts -/

/-- Settles O27: BRK completes with length 1 and halts. -/
theorem brkHalts : Obligations.BrkHalts := fun s =>
  ⟨fun _ => rfl, _, _, rfl, by simp, by simp, by simp, by simp, fun a => by simp, (s.complete 1).halt_events true⟩

/-- Settles O29: the pseudo-op reports, advances by 2, and halts on a halting type. -/
theorem pseudoOpReportsItsType : Obligations.PseudoOpReportsItsType := by
  intro s t
  have answer := pseudoOperation_eq s t
  refine ⟨rfl, ?_⟩
  by_cases halts : t ∈ s.params.pseudoOpHalts
  · rw [if_pos (by simpa using halts)] at answer
    refine ⟨_, Config.messageText s.events.length, Config.messageText (s.emit (.pseudoOp t)).events.length, answer,
      by simp, by simp, fun a => by simp, ?_⟩
    rw [if_pos halts]
    exact ⟨by simp, by simp, by rw [State.halt_events, State.complete_events, State.emit_events, List.append_assoc]; rfl⟩
  · rw [if_neg (by simpa using halts)] at answer
    refine ⟨_, Config.messageText s.events.length, "", answer, by simp, by simp, fun a => by simp, ?_⟩
    rw [if_neg halts]
    exact ⟨by simp, by simp, s.emit_events (.pseudoOp t)⟩

/-! ## Pointers -/

/-- R53: the address after the last one is 0x0000. -/
theorem add_one_eq_ofNat (a : Word) : a + 1 = BitVec.ofNat 16 ((a.toNat + 1) % 65536) := by
  bv_omega

/-- Settles O33: the low byte first, the second byte at the next address modulo 65536. -/
theorem getWordIsLittleEndianAndWraps : Obligations.GetWordIsLittleEndianAndWraps := by
  intro s a
  rw [State.getWord, wordOf_toNat, add_one_eq_ofNat]
  omega

/-- R92: the pointer held in page 0, under either value of ZP_POINTER_WRAP. -/
theorem State.zpWord_toNat (s : State) (z : Byte) :
    (s.zpWord z).toNat = (s.peek (BitVec.ofNat 16 z.toNat)).toNat +
      256 * (s.peek (BitVec.ofNat 16 (if z.toNat = 255 ∧ s.params.zpPointerWrap = true then 0 else z.toNat + 1))).toNat := by
  have low : zext16 z = BitVec.ofNat 16 z.toNat := (BitVec.ofNat_toNat 16 z).symm
  have nextByte : zext16 (z + 1) = BitVec.ofNat 16 (if z.toNat = 255 then 0 else z.toNat + 1) := by
    apply BitVec.eq_of_toNat_eq
    rw [zext16_toNat, BitVec.toNat_add, BitVec.toNat_ofNat]
    split <;> simp <;> omega
  have nextWord : zext16 z + 1 = BitVec.ofNat 16 (z.toNat + 1) := by
    rw [low, BitVec.ofNat_add]
    rfl
  unfold State.zpWord
  cases s.params.zpPointerWrap with
  | true => rw [if_pos rfl, wordOf_toNat, nextByte, low, Nat.add_comm]; simp
  | false => rw [if_neg (by decide), State.getWord, wordOf_toNat, nextWord, low, Nat.add_comm]; simp

/-- Settles O31: an index is added modulo 256, and the two indirect modes go through `zpWord`. -/
theorem effectiveAddressesInZeroPage : Obligations.EffectiveAddressesInZeroPage := by
  intro s z
  have index (v : Byte) : (zext16 (z + v)).toNat = (z.toNat + v.toNat) % 256 := by rw [zext16_toNat, BitVec.toNat_add]
  refine ⟨index s.x, index s.y, ?_, ?_⟩
  · exact (s.zpWord_toNat (z + s.x)).trans (by rw [BitVec.toNat_add])
  · rw [MemMode.ea, add_zext16_toNat, State.zpWord_toNat]

end Sys2Proof.Machine
end

section
/-! PROOF. Memory's `set`, the core step (48_host_operations.md R240, R241) and construction (10_state.md R44). What a step
can do is Laws/Engine.lean's `step_cases`; here is which of its cases a state takes. -/

namespace Sys2Proof.Machine

/-! ## set -/

/-- Settles O32: `set` is one write of the masked byte, and the event it emits is of the kind changed. -/
theorem setMasksAndReportsOnce : Obligations.SetMasksAndReportsOnce := by
  intro s a v
  refine ⟨rfl, rfl, rfl, ?_, fun b ne => ?_, .changed a (BitVec.ofNat 8 v), rfl, rfl, fun listeners => ?_⟩
  · rw [State.memSet, State.peek_poke, if_pos rfl, BitVec.toNat_ofNat]
  · rw [State.memSet, State.peek_poke, if_neg ne]
  · exact List.flatMap_singleton _ _

/-! ## The core step -/

section
variable {s : State}

/-- R240 step 1. -/
theorem step_of_marked (marked : s.refused ≠ none ∨ s.fault ≠ none) : step s = .next s.noStep := if_pos marked

/-- R240 step 2: the code range, compared as integers. -/
theorem inCode_iff : s.inCode = true ↔ s.codeStart.toNat ≤ s.pc.toNat ∧ s.pc.toNat < s.codeStart.toNat + s.codeLen := by
  simp [State.inCode]

variable (refused : s.refused = none) (fault : s.fault = none)
include refused fault

/-- R240 step 2, R241 case (c). -/
theorem step_of_not_inCode (outside : s.inCode = false) : step s = .next (s.halt false) := by
  simp [step, coreStep, refused, fault, outside]

/-- R240 steps 3 to 10: the instruction that was fetched. -/
theorem step_of_fetched {i : Instr} (inside : s.inCode = true) (fetched : s.fetched = .ok i) : step s = exec i s := by
  simp [step, coreStep, refused, fault, inside, fetchAndRun, fetched]

/-- R240 steps 3 to 5: the fault, where the bytes decode to nothing. -/
theorem step_of_not_fetched {e : DecodeError} (inside : s.inCode = true) (fetched : s.fetched = .error e) :
    step s = .next (s.raise .illegalOpcode (s.peek s.pc)) := by
  simp [step, coreStep, refused, fault, inside, fetchAndRun, fetched]

end

/-- Settles O37: the first test of the core step. -/
theorem noStepWhileFaultOrRefusalStands : Obligations.NoStepWhileFaultOrRefusalStands := fun _ marked =>
  step_of_marked marked

/-- Settles O36: the second test of the core step leads to the halt. -/
theorem leavingTheCodeRangeHalts : Obligations.LeavingTheCodeRangeHalts := by
  intro s refused fault outside
  have notInCode : s.inCode = false := by
    rw [Bool.eq_false_iff, Ne, inCode_iff]
    omega
  exact ⟨_, _, step_of_not_inCode refused fault notInCode, rfl, rfl, fun _ => rfl, rfl, rfl, s.halt_events false⟩

/-- Settles O34: what the bytes at pc decode to is what the step fetches and runs. -/
theorem stepRunsTheDecodedInstruction : Obligations.StepRunsTheDecodedInstruction := by
  intro s i rest refused fault lower upper decoded _
  have fetched : s.fetched = .ok i := by simp only [State.fetched, State.fetchBytes, decoded]
  exact step_of_fetched refused fault (inCode_iff.2 ⟨lower, upper⟩) fetched

/-- Settles O35: a byte with no row, which is not PSEUDO_OP, decodes to nothing, and the step raises. -/
theorem illegalOpcodeFaultsPrecisely : Obligations.IllegalOpcodeFaultsPrecisely := by
  intro s refused fault lower upper undocumented notPseudo
  have refusedByName := (illegalBytesAreExactlyTheListed s.params (s.peek s.pc) [s.peek (s.pc + 1), s.peek (s.pc + 2)]).2
    ⟨undocumented, notPseudo⟩
  have fetched : s.fetched = .error (.illegalOpcode (s.peek s.pc)) := by
    simp only [State.fetched, State.fetchBytes, refusedByName]
  exact ⟨_, _, step_of_not_fetched refused fault (inCode_iff.2 ⟨lower, upper⟩) fetched, rfl, rfl, fun _ => rfl, rfl, rfl,
    s.raise_events _ _⟩

/-- R35: the states a core step can lead to: the one it starts in, Completed or Stopped. -/
theorem step_runState {s t : State} (h : step s = .next t) :
    t.runState = s.runState ∨ t.runState = .completed ∨ t.runState = .stopped := by
  obtain ⟨-, rfl⟩ | ⟨-, -, -, rfl⟩ | ⟨-, -, -, -, rfl⟩ | ⟨-, -, -, i, -, ran⟩ := step_cases h
  · exact .inl rfl
  · exact .inr (.inl rfl)
  · exact .inr (.inr rfl)
  · obtain same | completed := (instructionsLeaveEngineControlAlone i s t ran).2.1
    · exact .inl same
    · exact .inr (.inl completed)

/-! ## Construction -/

/-- R25, R44: the reset value 0x20 of P has U alone. -/
theorem State.flags_of_p_reset {s : State} (p : s.p = 0x20) :
    s.flags = ⟨false, false, true, false, false, false, false, false⟩ := by
  simp only [State.flags, State.flagN, State.flagV, State.flagU, State.flagB, State.flagD, State.flagI, State.flagZ,
    State.flagC, p]
  decide

/-- Settles O41: the construction column of R44, field by field. -/
theorem constructionValues : Obligations.ConstructionValues :=
  ⟨fun _ _ => ⟨rfl, State.flags_of_p_reset rfl, rfl, rfl, rfl⟩, Params.standard, rfl⟩

/-- Settles O46: at construction no clause of the invariant has anything to forbid. -/
theorem constructionMeetsTheInvariant : Obligations.ConstructionMeetsTheInvariant := by
  intro ps
  have flags := State.flags_of_p_reset (s := State.construct ps) rfl
  exact ⟨⟨congrArg Flags.u flags, congrArg Flags.b flags, rfl, rfl, Nat.le_of_lt ps.origin.isLt, fun _ => rfl, List.nodup_nil,
    absurd rfl⟩, RunState.noConfusion⟩

end Sys2Proof.Machine
end

section
/-! PROOF. The assembler (49_assembler.md R277 to R283), the disassembler (R290, R291), and the round trip between them
(R294). A source's lines are placed at their addresses (`placeLines`); pass 1 answers the labels of the placed lines, and
pass 2 the writes of the placed lines, byte after byte from ORIGIN on. -/

namespace Sys2Proof.Machine

/-! ## The bytes of a line -/

theorem mem_of_selectRow {mn : Mnemonic} {modes : List Mode} {row : Row} (h : selectRow mn modes = some row) :
    row ∈ opcodeTable := by
  induction modes with
  | nil => cases h
  | cons m ms ih =>
    unfold selectRow at h
    split at h
    · rename_i found
      cases h
      exact (mem_of_rowFor found).1
    · exact ih h

theorem mem_of_parseBody {body : Text} {row : Row} {form : OperandForm} (h : parseBody body = .ok (row, form)) :
    row ∈ opcodeTable := by
  simp only [parseBody] at h
  split at h
  · cases h
  · split at h
    · cases h
    · split at h
      · cases h
      · rename_i selected
        cases h
        exact mem_of_selectRow selected

/-- R282: a blank body has no mnemonic. -/
theorem parseBody_nil : parseBody [] = .error .unknownMnemonic := rfl

/-- R281: a mode's operand bytes are one fewer than its length. -/
theorem length_of_operandBytes {m : Mode} {pc2 value : Nat} {operands : List Byte}
    (h : operandBytes m pc2 value = .ok operands) : operands.length + 1 = m.length := by
  cases m with
  | rel =>
    simp only [operandBytes] at h
    split at h
    · cases h; rfl
    · cases h
  | imp | acc | imm | zp | zpx | zpy | abs | absx | absy | ind | indx | indy => cases h; rfl

theorem literalInRange_of_resolveValue {table : SymbolTable} {v : ValueExpr} {value : Nat}
    (h : resolveValue table v = .ok value) : v.literalInRange = true := by
  cases v with
  | hex digits n =>
    simp only [resolveValue] at h
    split at h
    · rename_i inRange
      exact decide_eq_true inRange
    · cases h
  | label name => rfl

/-- R275, R281: pass 2 resolves no operand that pass 1 finds out of range. -/
theorem literalInRange_of_resolveOperand {table : SymbolTable} {form : OperandForm} {value : Nat}
    (h : resolveOperand table form = .ok value) : form.literalInRange = true := by
  cases form with
  | empty | accumulator => rfl
  | plain v | xIndexed v | yIndexed v | indirect v => exact literalInRange_of_resolveValue h
  | immediate n ok | preIndexed n ok | postIndexed n ok =>
    simp only [resolveOperand] at h
    split at h
    · assumption
    · cases h

/-- Everything that a line which pass 2 encodes must have (R280 steps 1 to 4). -/
theorem lineBytes_cases {table : SymbolTable} {body : Text} {pc2 : Nat} {bytes : List Byte}
    (h : lineBytes table body pc2 = .ok bytes) :
    ∃ row form operands, parseBody body = .ok (row, form) ∧ row ∈ opcodeTable ∧ form.literalInRange = true ∧
      bytes = row.opcode :: operands ∧ bytes.length = row.length ∧ pc2 + row.length ≤ 0x10000 := by
  unfold lineBytes at h
  split at h
  · cases h
  · rename_i row form parsed
    split at h
    · cases h
    · rename_i value resolved
      split at h
      · cases h
      · rename_i operands encoded
        split at h
        · cases h
        · rename_i fits
          cases h
          exact ⟨row, form, operands, parsed, mem_of_parseBody parsed, literalInRange_of_resolveOperand resolved, rfl,
            length_of_operandBytes encoded, Nat.not_lt.1 fits⟩

/-- R280: the two passes count alike. -/
theorem length_of_lineBytes {table : SymbolTable} {l : SourceLine} {pc2 : Nat} {bytes : List Byte}
    (h : lineBytes table l.body pc2 = .ok bytes) : bytes.length = l.length := by
  obtain ⟨row, form, operands, parsed, -, inRange, -, len, -⟩ := lineBytes_cases h
  have notBlank : l.body ≠ [] := by
    intro blank
    rw [blank, parseBody_nil] at parsed
    cases parsed
  simp [SourceLine.length, notBlank, parsed, inRange, len]

/-- Settles O56: the length is that of the row, which is the row of the first byte. -/
theorem passesAgreeOnLengths : Obligations.PassesAgreeOnLengths := by
  intro table l pc2 bytes h
  obtain ⟨row, form, operands, -, mem, -, rfl, len, -⟩ := lineBytes_cases h
  exact ⟨length_of_lineBytes h, row.opcode, row, rfl, lookup_of_mem mem, len.symm⟩

/-! ## Writes in order -/

/-- Writes made one after the other, each with its event (R280 step 5). -/
def State.writeAll (s : State) (writes : List (Word × Byte)) : State := writes.foldl (fun t w => t.poke w.1 w.2) s

theorem State.writeAll_append (s : State) (ws vs : List (Word × Byte)) :
    s.writeAll (ws ++ vs) = (s.writeAll ws).writeAll vs := List.foldl_append

theorem State.writeBytes_eq_writeAll (s : State) (a : Nat) (bytes : List Byte) :
    s.writeBytes a bytes = s.writeAll (bytes.mapIdx (fun j b => (BitVec.ofNat 16 (a + j), b))) := by
  induction bytes generalizing s a with
  | nil => rfl
  | cons b bs ih =>
    simp only [State.writeBytes, ih, List.mapIdx_cons, State.writeAll, List.foldl_cons, Nat.add_zero, Nat.add_assoc,
      Nat.add_comm 1]

theorem State.writeAll_keeps (s : State) (ws : List (Word × Byte)) : Keeps s (s.writeAll ws) := by
  induction ws generalizing s with
  | nil => exact ⟨rfl, .refl s, id, id⟩
  | cons w ws ih => exact (Keeps.poke s w.1 w.2).trans (ih _)

@[simp] theorem State.writeAll_regs (s : State) (ws : List (Word × Byte)) : (s.writeAll ws).regs = s.regs := by
  induction ws generalizing s with
  | nil => rfl
  | cons w ws ih => exact (ih _).trans (s.poke_regs w.1 w.2)

@[simp] theorem State.writeAll_flags (s : State) (ws : List (Word × Byte)) : (s.writeAll ws).flags = s.flags := by
  induction ws generalizing s with
  | nil => rfl
  | cons w ws ih => exact (ih _).trans (s.poke_flags w.1 w.2)

theorem State.writeAll_control (s : State) (ws : List (Word × Byte)) : (s.writeAll ws).control = s.control :=
  (s.writeAll_keeps ws).control

theorem State.writeAll_events (s : State) (ws : List (Word × Byte)) :
    (s.writeAll ws).events = s.events ++ ws.map (fun w => .changed w.1 w.2) := by
  induction ws generalizing s with
  | nil => exact (List.append_nil _).symm
  | cons w ws ih => rw [List.map_cons, List.append_cons]; exact ih _

theorem State.writeAll_peek (s : State) (ws : List (Word × Byte)) (a : Word) :
    (s.writeAll ws).peek a = afterWrites s ws a := by
  induction ws generalizing s with
  | nil => rfl
  | cons w ws ih =>
    have first (b : Word) : (s.poke w.1 w.2).peek b = afterWrites s [w] b := by
      rw [State.peek_poke, afterWrites_one]
    exact (ih _).trans (afterWrites_append ws first a)

/-- In a list of pairs with different first components the first component tells the pair. -/
theorem eq_of_fst_eq {α β : Type} {l : List (α × β)} (once : (l.map Prod.fst).Nodup) {v w : α × β} (hv : v ∈ l) (hw : w ∈ l)
    (same : v.1 = w.1) : v = w := by
  obtain ⟨i, hi, rfl⟩ := List.getElem_of_mem hv
  obtain ⟨j, hj, rfl⟩ := List.getElem_of_mem hw
  have sameMapped : (l.map Prod.fst)[i]'(by simpa using hi) = (l.map Prod.fst)[j]'(by simpa using hj) := by
    rwa [List.getElem_map, List.getElem_map]
  cases (List.getElem_inj once).1 sameMapped
  rfl

/-- After writes to different addresses each address reads what was written there. -/
theorem afterWrites_of_mem {s : State} {ws : List (Word × Byte)} {w : Word × Byte} (once : (ws.map Prod.fst).Nodup)
    (mem : w ∈ ws) : afterWrites s ws w.1 = w.2 := by
  unfold afterWrites
  split
  · rename_i v found
    have memFound : v ∈ ws := List.mem_reverse.1 (List.mem_of_find?_eq_some found)
    have sameAddress : v.1 = w.1 := by simpa using List.find?_some found
    rw [eq_of_fst_eq once memFound mem sameAddress]
  · rename_i missing
    exact absurd (beq_self_eq_true w.1) (List.find?_eq_none.1 missing w (List.mem_reverse.2 mem))

/-- An address that is not written reads what it read. -/
theorem afterWrites_of_not_mem {s : State} {ws : List (Word × Byte)} {a : Word} (h : a ∉ ws.map Prod.fst) :
    afterWrites s ws a = s.peek a := by
  have none : ws.reverse.find? (fun w => w.1 == a) = none := by
    simp only [List.find?_eq_none, List.mem_reverse, beq_iff_eq]
    rintro w mem rfl
    exact h (List.mem_map_of_mem mem)
  simp [afterWrites, none]

/-! ## Pass 1 -/

theorem isReserved_eq_false_iff {ps : Params} {name : Text} :
    isReserved ps name = false ↔ ∀ r ∈ ps.reservedSymbols, upperText r ≠ upperText name := by
  simp [isReserved]

theorem findSymbol_isSome_iff {table : SymbolTable} {name : Text} :
    (findSymbol table name).isSome = true ↔ name ∈ table.map Prod.fst := by
  simp [findSymbol, List.find?_isSome]

theorem labelsOf_cons_none {a : Nat} {l : SourceLine} (h : l.label = none) (placed : List (Nat × SourceLine)) :
    labelsOf ((a, l) :: placed) = labelsOf placed := List.filterMap_cons_none (by simp [h])

theorem labelsOf_cons_some {a : Nat} {l : SourceLine} {name : Text} (h : l.label = some name)
    (placed : List (Nat × SourceLine)) : labelsOf ((a, l) :: placed) = (name, a) :: labelsOf placed :=
  List.filterMap_cons_some (by simp [h])

/-- R278: pass 1 answers its table with the labels of the placed lines behind it, exactly if none of them is reserved and
no name is there twice. -/
theorem pass1_eq_ok_iff {ps : Params} {ls : List SourceLine} {a : Nat} {table result : SymbolTable}
    (once : (table.map Prod.fst).Nodup) :
    pass1 ps ls a table = .ok result ↔
      result = table ++ labelsOf (placeLines a ls) ∧ (∀ e ∈ labelsOf (placeLines a ls), isReserved ps e.1 = false) ∧
        ((table ++ labelsOf (placeLines a ls)).map Prod.fst).Nodup := by
  induction ls generalizing a table with
  | nil => simp [pass1, placeLines, labelsOf, once, eq_comm (a := result)]
  | cons l ls ih =>
    cases label : l.label with
    | none =>
      simp only [pass1, label, placeLines, labelsOf_cons_none label]
      exact ih once
    | some name =>
      simp only [pass1, label, placeLines, labelsOf_cons_some label]
      by_cases reserved : isReserved ps name = true
      · simp [reserved]
      · by_cases defined : (findSymbol table name).isSome = true
        · have twice := findSymbol_isSome_iff.1 defined
          simp only [reserved, defined, if_true, Bool.false_eq_true, if_false, reduceCtorEq, false_iff]
          rintro ⟨-, -, nodup⟩
          rw [List.map_append, List.map_cons] at nodup
          obtain ⟨-, -, apart⟩ := List.nodup_append.1 nodup
          exact apart _ twice _ List.mem_cons_self rfl
        · have unknown : name ∉ table.map Prod.fst := fun h => defined (findSymbol_isSome_iff.2 h)
          have fresh : ((table ++ [(name, a)]).map Prod.fst).Nodup := by
            rw [List.map_append, List.nodup_append]
            refine ⟨once, List.nodup_cons.2 ⟨List.not_mem_nil, List.nodup_nil⟩, fun x mem y last same => ?_⟩
            cases List.mem_singleton.1 last
            exact unknown (same ▸ mem : (name, a).1 ∈ table.map Prod.fst)
          have reservedFalse : isReserved ps name = false := by simpa using reserved
          simp only [reserved, defined, if_false, Bool.false_eq_true]
          rw [ih fresh]
          simp [reservedFalse]

/-- The labels are as pass 1 asks (R278): none reserved, none defined twice. -/
def LabelsFit (ps : Params) (labels : SymbolTable) : Prop :=
  (∀ e ∈ labels, isReserved ps e.1 = false) ∧ (labels.map Prod.fst).Nodup

/-! ## Pass 2 -/

/-- Pass 2 encodes the placed line (R280), if it has an instruction. -/
def LineEncodes (table : SymbolTable) (p : Nat × SourceLine) : Prop :=
  p.2.body ≠ [] → ∃ bytes, lineBytes table p.2.body p.1 = .ok bytes

/-- The number of bytes that lines take in pass 1. -/
def totalLength (ls : List SourceLine) : Nat := (ls.map SourceLine.length).sum

theorem totalLength_cons (l : SourceLine) (ls : List SourceLine) :
    totalLength (l :: ls) = l.length + totalLength ls := rfl

theorem length_of_blank {l : SourceLine} (blank : l.body = []) : l.length = 0 := by simp [SourceLine.length, blank]

theorem lineWrites_of_blank (table : SymbolTable) {p : Nat × SourceLine} (blank : p.2.body = []) :
    lineWrites table p = [] := by simp [lineWrites, blank]

theorem lineWrites_of_lineBytes {table : SymbolTable} {p : Nat × SourceLine} {bytes : List Byte}
    (h : lineBytes table p.2.body p.1 = .ok bytes) (notBlank : p.2.body ≠ []) :
    lineWrites table p = bytes.mapIdx (fun j b => (BitVec.ofNat 16 (p.1 + j), b)) := by
  simp [lineWrites, notBlank, h]

section
variable {table : SymbolTable} {ls : List SourceLine} {a : Nat}

/-- R280: where every line encodes, pass 2 makes the writes of the placed lines, and its counter ends where pass 1's
does. -/
theorem pass2_of_encodes (encodes : ∀ p ∈ placeLines a ls, LineEncodes table p) (s : State) :
    pass2 table ls a s =
      (.ok (a + totalLength ls), s.writeAll ((placeLines a ls).flatMap (lineWrites table))) := by
  induction ls generalizing a s with
  | nil => rfl
  | cons l ls ih =>
    obtain ⟨first, rest⟩ := List.forall_mem_cons.1 encodes
    rw [placeLines, List.flatMap_cons, State.writeAll_append, totalLength_cons, ← Nat.add_assoc, pass2]
    by_cases blank : l.body = []
    · rw [if_pos blank, lineWrites_of_blank table blank]
      rw [length_of_blank blank] at rest ⊢
      exact ih rest s
    · obtain ⟨bytes, line⟩ := first blank
      rw [if_neg blank, line, lineWrites_of_lineBytes line blank, ← State.writeBytes_eq_writeAll,
        ← length_of_lineBytes line]
      exact ih (length_of_lineBytes line ▸ rest) _

/-- R280, R283: where a line does not encode, pass 2 answers an error and keeps the writes made before. -/
theorem pass2_of_not_encodes (fails : ¬ ∀ p ∈ placeLines a ls, LineEncodes table p) (s : State) :
    ∃ e ws, pass2 table ls a s = (.error e, s.writeAll ws) := by
  induction ls generalizing a s with
  | nil => exact absurd (fun p h => by cases h) fails
  | cons l ls ih =>
    simp only [pass2]
    by_cases blank : l.body = []
    · rw [if_pos blank]
      refine ih (fun rest => fails (List.forall_mem_cons.2 ⟨fun h => absurd blank h, ?_⟩)) s
      rwa [length_of_blank blank]
    · rw [if_neg blank]
      cases line : lineBytes table l.body a with
      | error k => exact ⟨l.error k, [], rfl⟩
      | ok bytes =>
        obtain ⟨e, ws, later⟩ := ih (a := a + bytes.length)
          (fun rest => fails (List.forall_mem_cons.2 ⟨fun _ => ⟨bytes, line⟩, length_of_lineBytes line ▸ rest⟩))
          (s.writeBytes a bytes)
        refine ⟨e, bytes.mapIdx (fun j b => (BitVec.ofNat 16 (a + j), b)) ++ ws, ?_⟩
        rw [State.writeAll_append, ← State.writeBytes_eq_writeAll]
        exact later

/-- R280: code ends by 0x10000. -/
theorem end_le_of_encodes (encodes : ∀ p ∈ placeLines a ls, LineEncodes table p) (start : a ≤ 65536) :
    a + totalLength ls ≤ 65536 := by
  induction ls generalizing a with
  | nil => exact start
  | cons l ls ih =>
    obtain ⟨first, rest⟩ := List.forall_mem_cons.1 encodes
    rw [totalLength_cons, ← Nat.add_assoc]
    refine ih rest ?_
    by_cases blank : l.body = []
    · rwa [length_of_blank blank]
    · obtain ⟨bytes, line⟩ := first blank
      obtain ⟨row, -, -, -, -, -, -, len, fits⟩ := lineBytes_cases line
      rw [← length_of_lineBytes line, len]
      exact fits

/-- R280: the addresses that a line's bytes are written to. -/
theorem map_fst_lineWrites {p : Nat × SourceLine} (encodes : LineEncodes table p) :
    (lineWrites table p).map Prod.fst = (List.range' p.1 p.2.length).map (BitVec.ofNat 16) := by
  by_cases blank : p.2.body = []
  · rw [lineWrites_of_blank table blank, length_of_blank blank]
    rfl
  · obtain ⟨bytes, line⟩ := encodes blank
    rw [lineWrites_of_lineBytes line blank, ← length_of_lineBytes line]
    apply List.ext_getElem <;> simp

/-- R280: the addresses that all bytes are written to, one after the other. -/
theorem map_fst_flatMap_lineWrites (encodes : ∀ p ∈ placeLines a ls, LineEncodes table p) :
    ((placeLines a ls).flatMap (lineWrites table)).map Prod.fst =
      (List.range' a (totalLength ls)).map (BitVec.ofNat 16) := by
  induction ls generalizing a with
  | nil => rfl
  | cons l ls ih =>
    obtain ⟨first, rest⟩ := List.forall_mem_cons.1 encodes
    rw [placeLines, List.flatMap_cons, List.map_append, map_fst_lineWrites first, ih rest, ← List.map_append,
      totalLength_cons]
    exact congrArg _ List.range'_append_1

/-- Numbers of a range that ends by 0x10000 are different addresses. -/
theorem nodup_ofNat_range' {n : Nat} (h : a + n ≤ 65536) : ((List.range' a n).map (BitVec.ofNat 16)).Nodup := by
  refine List.pairwise_map.2 (List.Pairwise.imp_of_mem (fun {x y} hx hy different same => different ?_) List.nodup_range')
  rw [List.mem_range'_1] at hx hy
  have := congrArg BitVec.toNat same
  simp only [BitVec.toNat_ofNat] at this
  omega

end

end Sys2Proof.Machine
end

section
/-! PROOF. What `assemble` leaves (49_assembler.md R283), and the round trip through the disassembler (R294). -/

namespace Sys2Proof.Machine

/-! ## The ways an assembly ends -/

/-- The lines of a source, placed from ORIGIN on. -/
def State.placed (s : State) (source : Text) : List (Nat × SourceLine) :=
  placeLines s.params.origin.toNat (sourceLines source)

/-- The labels of a source's lines. -/
def State.labels (s : State) (source : Text) : SymbolTable := labelsOf (s.placed source)

/-- All lines of a source encode. -/
def State.LinesEncode (s : State) (source : Text) : Prop := ∀ p ∈ s.placed source, LineEncodes (s.labels source) p

/-- The state in which pass 2 starts (R283 steps 1 to 3). -/
def State.withLabels (s : State) (table : SymbolTable) : State :=
  { s.assembleReset with symbols := table }.emitLabelsInfo table.length

/-- The state after a successful assembly (R283 step 5). -/
def State.afterSuccess (s : State) (table : SymbolTable) (writes : List (Word × Byte)) (len : Nat) : State :=
  { (s.withLabels table).writeAll writes with codeLen := len, codeValid := true, runState := .ready }.addEvent
    .assembleSuccess

/-- The state after a failure in pass 2 (R283 step 4). -/
def State.afterPass2Failure (s : State) (table : SymbolTable) (writes : List (Word × Byte)) (e : AsmError) : State :=
  { (s.withLabels table).writeAll writes with symbols := [], runState := .initialized }.emitAssembleFailure e

/-- The state after a failure in pass 1 (R283 step 2). -/
def State.afterPass1Failure (s : State) (e : AsmError) : State :=
  (s.assembleReset.emitLabelsFailure e).emitAssembleFailure e

/-- R278: pass 1 answers the labels of the source, if they fit, and else an error. -/
theorem pass1_assembleReset_eq_ok_iff (source : Text) (s : State) (table : SymbolTable) :
    pass1 s.assembleReset.params (sourceLines source) s.assembleReset.params.origin.toNat [] = .ok table ↔
      table = s.labels source ∧ LabelsFit s.params (s.labels source) :=
  pass1_eq_ok_iff (result := table) (table := []) List.nodup_nil

/-- R283 step 5: where all lines encode, pass 2 ends in success. -/
theorem assemblePass2_of_encodes {source : Text} {s : State} (encodes : s.LinesEncode source) :
    assemblePass2 (s.labels source) (sourceLines source) s.assembleReset =
      (.success (totalLength (sourceLines source)),
        s.afterSuccess (s.labels source) ((s.placed source).flatMap (lineWrites (s.labels source)))
          (totalLength (sourceLines source))) := by
  have pass : pass2 (s.labels source) (sourceLines source) s.assembleReset.params.origin.toNat
      ({ s.assembleReset with symbols := s.labels source }.emitLabelsInfo (s.labels source).length) = _ :=
    pass2_of_encodes encodes (s.withLabels (s.labels source))
  simp only [assemblePass2, pass]
  rw [show s.assembleReset.params = s.params from rfl, Nat.add_sub_cancel_left]
  rfl

/-- R283 step 4: where a line does not encode, pass 2 ends in failure. -/
theorem assemblePass2_of_not_encodes {source : Text} {s : State} (fails : ¬ s.LinesEncode source) :
    ∃ e writes, assemblePass2 (s.labels source) (sourceLines source) s.assembleReset =
      (.failure e, s.afterPass2Failure (s.labels source) writes e) := by
  obtain ⟨e, writes, failed⟩ := pass2_of_not_encodes fails (s.withLabels (s.labels source))
  have pass : pass2 (s.labels source) (sourceLines source) s.assembleReset.params.origin.toNat
      ({ s.assembleReset with symbols := s.labels source }.emitLabelsInfo (s.labels source).length) = _ := failed
  exact ⟨e, writes, by simp only [assemblePass2, pass]; rfl⟩

/-- Everything that `assemble` can do (R283): succeed, or fail in pass 2, or fail in pass 1. -/
theorem assemble_cases (source : Text) {s : State} (accepted : s.runState ≠ .running) :
    (LabelsFit s.params (s.labels source) ∧ s.LinesEncode source ∧
      assemble source s = (.success (totalLength (sourceLines source)),
        s.afterSuccess (s.labels source) ((s.placed source).flatMap (lineWrites (s.labels source)))
          (totalLength (sourceLines source)))) ∨
    (LabelsFit s.params (s.labels source) ∧ ¬ s.LinesEncode source ∧
      ∃ e writes, assemble source s = (.failure e, s.afterPass2Failure (s.labels source) writes e)) ∨
    (¬ LabelsFit s.params (s.labels source) ∧ ∃ e, assemble source s = (.failure e, s.afterPass1Failure e)) := by
  have labels := pass1_assembleReset_eq_ok_iff source s
  simp only [assemble, if_neg accepted]
  cases pass : pass1 s.assembleReset.params (sourceLines source) s.assembleReset.params.origin.toNat [] with
  | error e =>
    have unfit : ¬ LabelsFit s.params (s.labels source) := fun fit => by
      cases pass.symm.trans ((labels _).2 ⟨rfl, fit⟩)
    exact .inr (.inr ⟨unfit, e, rfl⟩)
  | ok table =>
    obtain ⟨rfl, fit⟩ := (labels table).1 pass
    by_cases encodes : s.LinesEncode source
    · exact .inl ⟨fit, encodes, assemblePass2_of_encodes encodes⟩
    · exact .inr (.inl ⟨fit, encodes, assemblePass2_of_not_encodes encodes⟩)

/-! ## What an assembly leaves -/

/-- The reset values that `assemble` leaves, however it ends (R283 step 1). -/
def ResetBy (s t : State) : Prop :=
  t.regs = ⟨0x00, 0x00, 0x00, 0xFF, s.params.origin⟩ ∧
  t.flags = ⟨false, false, true, false, false, false, false, false⟩ ∧ t.fault = none ∧ t.refused = none ∧
  t.codeStart = s.params.origin

theorem ResetBy.pass1Failure (s : State) (e : AsmError) : ResetBy s (s.afterPass1Failure e) :=
  ⟨rfl, State.flags_of_p_reset rfl, rfl, rfl, rfl⟩

/-- R280: the writes of pass 2 keep the reset values. -/
theorem ResetBy.writeAll (s : State) (table : SymbolTable) (ws : List (Word × Byte)) :
    ResetBy s ((s.withLabels table).writeAll ws) := by
  have control := (s.withLabels table).writeAll_control ws
  exact ⟨State.writeAll_regs _ ws, (State.writeAll_flags _ ws).trans (State.flags_of_p_reset rfl),
    congrArg Control.fault control, congrArg Control.refused control, congrArg Control.codeStart control⟩

section
variable {s : State} {source : Text} (encodes : s.LinesEncode source)
include encodes

/-- R280: code ends by 0x10000. -/
theorem State.LinesEncode.end_le : s.params.origin.toNat + totalLength (sourceLines source) ≤ 65536 :=
  end_le_of_encodes encodes (Nat.le_of_lt s.params.origin.isLt)

/-- R280: the addresses of the bytes that pass 2 writes. -/
theorem State.LinesEncode.addresses :
    ((s.placed source).flatMap (lineWrites (s.labels source))).map Prod.fst =
      (List.range' s.params.origin.toNat (totalLength (sourceLines source))).map (BitVec.ofNat 16) :=
  map_fst_flatMap_lineWrites encodes

/-- R280: after a success, memory holds the bytes of each line from the line's address on. -/
theorem State.LinesEncode.peek_line (len : Nat) {p : Nat × SourceLine} {bytes : List Byte} (placed : p ∈ s.placed source)
    (notBlank : p.2.body ≠ []) (line : lineBytes (s.labels source) p.2.body p.1 = .ok bytes) {j : Nat} {b : Byte}
    (byte : bytes[j]? = some b) :
    (s.afterSuccess (s.labels source) ((s.placed source).flatMap (lineWrites (s.labels source))) len).peek
      (BitVec.ofNat 16 (p.1 + j)) = b := by
  have once : (((s.placed source).flatMap (lineWrites (s.labels source))).map Prod.fst).Nodup :=
    encodes.addresses ▸ nodup_ofNat_range' encodes.end_le
  have written : (BitVec.ofNat 16 (p.1 + j), b) ∈ (s.placed source).flatMap (lineWrites (s.labels source)) := by
    refine List.mem_flatMap.2 ⟨p, placed, ?_⟩
    rw [lineWrites_of_lineBytes line notBlank, List.mem_iff_getElem?]
    exact ⟨j, by simp [byte]⟩
  exact (State.writeAll_peek _ _ _).trans (afterWrites_of_mem once written)

/-- R283: after a success, memory outside the code range is 0x00. -/
theorem State.LinesEncode.peek_outside (len : Nat) {a : Word}
    (outside : a.toNat < s.params.origin.toNat ∨ s.params.origin.toNat + totalLength (sourceLines source) ≤ a.toNat) :
    (s.afterSuccess (s.labels source) ((s.placed source).flatMap (lineWrites (s.labels source))) len).peek a = 0x00 := by
  have unwritten : a ∉ ((s.placed source).flatMap (lineWrites (s.labels source))).map Prod.fst := by
    rw [encodes.addresses]
    intro mem
    obtain ⟨k, range, rfl⟩ := List.mem_map.1 mem
    rw [List.mem_range'_1] at range
    have := encodes.end_le
    rw [BitVec.toNat_ofNat] at outside
    omega
  exact (State.writeAll_peek _ _ _).trans (afterWrites_of_not_mem unwritten)

end

theorem State.withLabels_events (s : State) (table : SymbolTable) :
    (s.withLabels table).events = s.events ++ [.labelsInfo table.length (Config.messageText s.events.length)] := rfl

/-- R283: the events of a success. -/
theorem State.afterSuccess_events (s : State) (table : SymbolTable) (writes : List (Word × Byte)) (len : Nat) :
    (s.afterSuccess table writes len).events =
      s.events ++ .labelsInfo table.length (Config.messageText s.events.length) ::
        (writes.map (fun w => .changed w.1 w.2) ++ [.assembleSuccess]) := by
  have last : (s.afterSuccess table writes len).events =
    ((s.withLabels table).writeAll writes).events ++ [.assembleSuccess] := rfl
  simp [last, State.writeAll_events, State.withLabels_events]

/-- R283: the last event of a failure in pass 2. -/
theorem State.afterPass2Failure_events (s : State) (table : SymbolTable) (writes : List (Word × Byte)) (e : AsmError) :
    ∃ new text, (s.afterPass2Failure table writes e).events = s.events ++ new ++ [.assembleFailure e text] := by
  have last : (s.afterPass2Failure table writes e).events = ((s.withLabels table).writeAll writes).events ++
    [.assembleFailure e (Config.messageText ((s.withLabels table).writeAll writes).events.length)] := rfl
  rw [last, State.writeAll_events, State.withLabels_events, List.append_assoc s.events]
  exact ⟨_, _, rfl⟩

/-- R283: the last event of a failure in pass 1. -/
theorem State.afterPass1Failure_events (s : State) (e : AsmError) :
    ∃ new text, (s.afterPass1Failure e).events = s.events ++ new ++ [.assembleFailure e text] := ⟨_, _, rfl⟩

/-- R273, R278: `LabelsFit` spelt out. -/
theorem labelsFit_iff {ps : Params} {table : SymbolTable} :
    LabelsFit ps table ↔
      (∀ e ∈ table, ∀ r ∈ ps.reservedSymbols, upperText r ≠ upperText e.1) ∧ (table.map Prod.fst).Nodup := by
  simp only [LabelsFit, isReserved_eq_false_iff]

/-- Settles O55: the three ends of `assemble_cases`, each with the state it leaves. -/
theorem assembleSettlesTheCodeRange : Obligations.AssembleSettlesTheCodeRange := by
  intro source s accepted
  obtain ⟨fit, encodes, result⟩ | ⟨-, fails, e, writes, result⟩ | ⟨unfit, e, result⟩ := assemble_cases source accepted
  · obtain ⟨regs, flags, fault, refused, codeStart⟩ :=
      ResetBy.writeAll s (s.labels source) ((s.placed source).flatMap (lineWrites (s.labels source)))
    obtain ⟨unreserved, once⟩ := labelsFit_iff.1 fit
    rw [result]
    refine ⟨⟨fun _ => ⟨unreserved, once, encodes⟩, fun _ => ⟨_, rfl⟩⟩, regs, flags, fault, refused, codeStart,
      rfl, rfl, rfl, ?_, rfl, ?_, ?_, _, State.afterSuccess_events s _ _ _⟩
    · exact congrArg Control.symbols (State.writeAll_control _ _)
    · exact fun p placed bytes notBlank line j b byte => encodes.peek_line _ placed notBlank line byte
    · exact fun a outside => encodes.peek_outside _ outside
  · obtain ⟨regs, flags, fault, refused, codeStart⟩ := ResetBy.writeAll s (s.labels source) writes
    have control := (s.withLabels (s.labels source)).writeAll_control writes
    rw [result]
    refine ⟨⟨fun success => ?_, fun fine => absurd fine.2.2 fails⟩, regs, flags, fault, refused, codeStart,
      rfl, congrArg Control.codeLen control, congrArg Control.codeValid control, rfl, s.afterPass2Failure_events _ writes e⟩
    obtain ⟨len, success⟩ := success
    cases success
  · obtain ⟨regs, flags, fault, refused, codeStart⟩ := ResetBy.pass1Failure s e
    rw [result]
    refine ⟨⟨fun success => ?_, fun fine => absurd (labelsFit_iff.2 ⟨fine.1, fine.2.1⟩) unfit⟩, regs, flags, fault,
      refused, codeStart, rfl, rfl, rfl, rfl, s.afterPass1Failure_events e⟩
    obtain ⟨len, success⟩ := success
    cases success

end Sys2Proof.Machine
end

section
/-! PROOF. The disassembler (49_assembler.md R290, R291): it reads what the decoder reads, and what pass 2 wrote. -/

namespace Sys2Proof.Machine

/-- R290: bytes that stand in memory from an address on are the bytes the disassembler reads there. -/
theorem State.bytesAt_eq {s : State} {a : Nat} {bytes : List Byte}
    (stand : ∀ j b, bytes[j]? = some b → s.peek (BitVec.ofNat 16 (a + j)) = b) : s.bytesAt a bytes.length = bytes := by
  induction bytes generalizing a with
  | nil => rfl
  | cons b bs ih =>
    have head : s.peek (BitVec.ofNat 16 a) = b := stand 0 b rfl
    rw [List.length_cons, State.bytesAt, head]
    refine congrArg _ (ih fun j c h => ?_)
    rw [Nat.add_assoc, Nat.add_comm 1]
    exact stand (j + 1) c h

/-! ## What the decoder reads -/

/-- R80, R290: the bytes fetched stand in memory from pc on. -/
theorem State.fetchBytes_stand (s : State) (j : Nat) (b : Byte) (h : s.fetchBytes[j]? = some b) :
    s.peek (BitVec.ofNat 16 (s.pc.toNat + j)) = b := by
  rw [BitVec.ofNat_add, BitVec.ofNat_toNat, BitVec.setWidth_eq]
  match j with
  | 0 => exact (congrArg s.peek (BitVec.add_zero s.pc)).trans (Option.some.inj h)
  | 1 => exact Option.some.inj h
  | 2 => exact Option.some.inj h
  | j + 3 => cases h

/-- R99: the decoder's reading of the fetched bytes, as their encoding. -/
theorem State.bytesAt_pc_of_encode {s : State} {bytes rest : List Byte} (h : bytes ++ rest = s.fetchBytes) :
    s.bytesAt s.pc.toNat bytes.length = bytes :=
  State.bytesAt_eq fun j b byte => s.fetchBytes_stand j b (by
    rw [← h, List.getElem?_append_left (List.getElem?_eq_some_iff.1 byte).1, byte])

/-- R290: the walk at an address inside the range that holds the opcode byte of a row. -/
theorem walk_of_row {s : State} {stop fuel a : Nat} {row : Row} (inside : a < stop)
    (notPseudo : s.peek (BitVec.ofNat 16 a) ≠ s.params.pseudoOp) (found : lookup (s.peek (BitVec.ofNat 16 a)) = some row) :
    walk s stop (fuel + 1) a = instrRecord s a row :: walk s stop fuel (a + row.length) := by
  simp only [walk, if_pos inside, if_neg notPseudo, found]

/-- R290: the walk at an address inside the range that holds PSEUDO_OP. -/
theorem walk_of_pseudoOp {s : State} {stop fuel a : Nat} (inside : a < stop)
    (pseudo : s.peek (BitVec.ofNat 16 a) = s.params.pseudoOp) :
    walk s stop (fuel + 1) a = pseudoRecord s a :: walk s stop fuel (a + 2) := by
  simp only [walk, if_pos inside, if_pos pseudo]

/-- R80: what was fetched is what the decoder read. -/
theorem State.decode_of_fetched {s : State} {i : Instr} (h : s.fetched = .ok i) :
    ∃ rest, decode s.params s.fetchBytes = .ok (i, rest) := by
  unfold State.fetched at h
  split at h
  · rename_i rest decoded
    cases h
    exact ⟨rest, decoded⟩
  · cases h

/-- Settles O57: pseudo-op or row, the record takes as many bytes from pc on as the encoding has. -/
theorem disassemblerAgreesWithTheDecoder : Obligations.DisassemblerAgreesWithTheDecoder := by
  intro s i fetched
  obtain ⟨rest, decoded⟩ := State.decode_of_fetched fetched
  have read := State.bytesAt_pc_of_encode (encodeOfDecodeIsTheBytes s.params _ i rest decoded)
  have opcodeRead : s.peek (BitVec.ofNat 16 s.pc.toNat) = s.peek s.pc := by rw [BitVec.ofNat_toNat, BitVec.setWidth_eq]
  have inside : s.pc.toNat < s.pc.toNat + 1 := Nat.lt_succ_self _
  rw [State.disassembly, Nat.add_sub_cancel_left]
  obtain ⟨t, bytes, rfl⟩ | ⟨op, tail, row, bytes, notPseudo, found, -, rfl, -⟩ := decode_cases decoded
  · have pseudo : s.peek s.pc = s.params.pseudoOp := (List.cons.inj bytes).1
    exact ⟨_, walk_of_pseudoOp inside (opcodeRead.trans pseudo), rfl, read⟩
  · obtain rfl : s.peek s.pc = op := (List.cons.inj bytes).1
    have length : (encode s.params (row.make (tail.getD 0 0) (tail.getD 1 0))).length = row.length := by
      have := row.length_cases
      rw [encode_make (mem_of_lookup found).1, List.length_cons, List.length_take]
      simp only [List.length_cons, List.length_nil]
      omega
    rw [length] at read
    exact ⟨_, walk_of_row inside (opcodeRead ▸ notPseudo) (opcodeRead ▸ found), rfl, read⟩

/-! ## The round trip -/

/-- R294: the record is the line's: its mnemonic and mode, and the bytes that pass 2 makes of the line there. -/
def LineRecord (table : SymbolTable) (l : SourceLine) (r : DisasmRecord) : Prop :=
  ∃ row form, parseBody l.body = .ok (row, form) ∧ r.mode = some row.mode ∧ r.mnemonic = row.mnemonic.name ∧
    lineBytes table l.body r.address = .ok r.bytes

/-- The bytes of every placed line stand in memory from the line's address on. -/
def LinesStand (t : State) (table : SymbolTable) (placed : List (Nat × SourceLine)) : Prop :=
  ∀ p ∈ placed, ∀ bytes, p.2.body ≠ [] → lineBytes table p.2.body p.1 = .ok bytes →
    ∀ j b, bytes[j]? = some b → t.peek (BitVec.ofNat 16 (p.1 + j)) = b

/-- R294: the records are the lines', one for each line, in order. -/
def LineRecords (table : SymbolTable) (lines : List SourceLine) (records : List DisasmRecord) : Prop :=
  records.length = lines.length ∧
    ∀ (k : Nat) (l : SourceLine) (r : DisasmRecord), lines[k]? = some l → records[k]? = some r → LineRecord table l r

theorem LineRecords.nil (table : SymbolTable) : LineRecords table [] [] := ⟨rfl, by simp⟩

theorem LineRecords.cons {table : SymbolTable} {l : SourceLine} {r : DisasmRecord} {lines : List SourceLine}
    {records : List DisasmRecord} (first : LineRecord table l r) (rest : LineRecords table lines records) :
    LineRecords table (l :: lines) (r :: records) := by
  refine ⟨congrArg (· + 1) rest.1, fun k l' r' line record => ?_⟩
  cases k with
  | zero =>
    cases line
    cases record
    exact first
  | succ k => exact rest.2 k l' r' line record

/-- R290, R294: the walk over lines that stand in memory makes one record for each line with an instruction. -/
theorem walk_lines {t : State} {table : SymbolTable} (legal : t.params.wellFormed = true) {ls : List SourceLine} {a : Nat}
    (encodes : ∀ p ∈ placeLines a ls, LineEncodes table p) (stand : LinesStand t table (placeLines a ls)) {fuel : Nat}
    (enough : totalLength ls ≤ fuel) :
    LineRecords table (ls.filter (fun l => decide (l.body ≠ []))) (walk t (a + totalLength ls) fuel a) := by
  induction ls generalizing a fuel with
  | nil =>
    have none : walk t (a + totalLength []) fuel a = [] := by
      cases fuel with
      | zero => rfl
      | succ fuel => exact if_neg (Nat.lt_irrefl a)
    rw [none]
    exact .nil table
  | cons l ls ih =>
    obtain ⟨first, rest⟩ := List.forall_mem_cons.1 encodes
    obtain ⟨firstStands, restStand⟩ := List.forall_mem_cons.1 stand
    rw [totalLength_cons] at enough ⊢
    rw [← Nat.add_assoc]
    by_cases blank : l.body = []
    · rw [List.filter_cons_of_neg (by simp [blank])]
      rw [length_of_blank blank] at *
      exact ih rest restStand (by omega)
    · obtain ⟨bytes, line⟩ : ∃ bytes, lineBytes table l.body a = .ok bytes := first blank
      obtain ⟨row, form, operands, parsed, mem, -, opcode, len, -⟩ := lineBytes_cases line
      have bytesStand := firstStands bytes blank line
      have length : bytes.length = l.length := length_of_lineBytes line
      have positive := row.length_cases
      have opcodeStands : t.peek (BitVec.ofNat 16 a) = row.opcode := bytesStand 0 row.opcode (by simp [opcode])
      obtain ⟨fuel, rfl⟩ : ∃ f, fuel = f + 1 := ⟨fuel - 1, by omega⟩
      have found : lookup (t.peek (BitVec.ofNat 16 a)) = some row := opcodeStands ▸ lookup_of_mem mem
      rw [List.filter_cons_of_pos (by simpa using blank),
        walk_of_row (by omega) (ne_pseudoOp_of_lookup legal found) found, ← len, length]
      refine .cons ⟨row, form, parsed, rfl, rfl, ?_⟩ (ih rest restStand (by omega))
      have read : t.bytesAt a row.length = bytes := len ▸ State.bytesAt_eq bytesStand
      exact line.trans (congrArg _ read.symm)

/-- R283: a success is the first of the ends of `assemble_cases`. -/
theorem assemble_success {source : Text} {s t : State} {len : Nat} (h : assemble source s = (.success len, t)) :
    s.LinesEncode source ∧ len = totalLength (sourceLines source) ∧
      t = s.afterSuccess (s.labels source) ((s.placed source).flatMap (lineWrites (s.labels source))) len := by
  have accepted : s.runState ≠ .running := by
    intro running
    rw [assemble, if_pos running] at h
    cases h
  obtain ⟨-, encodes, result⟩ | ⟨-, -, e, writes, result⟩ | ⟨-, e, result⟩ := assemble_cases source accepted
  · cases result.symm.trans h
    exact ⟨encodes, rfl, rfl⟩
  · cases result.symm.trans h
  · cases result.symm.trans h

/-- Settles O58: after a success the lines stand in memory, and the walk makes their records. -/
theorem assembleThenDisassembleGivesTheLines : Obligations.AssembleThenDisassembleGivesTheLines := by
  intro source s t len legal result
  obtain ⟨encodes, rfl, ht⟩ := assemble_success result
  have control := (s.withLabels (s.labels source)).writeAll_control
    ((s.placed source).flatMap (lineWrites (s.labels source)))
  have params : t.params = s.params := ht ▸ congrArg Control.params control
  have start : t.codeStart = s.params.origin := ht ▸ congrArg Control.codeStart control
  have symbols : t.symbols = s.labels source := ht ▸ congrArg Control.symbols control
  have codeLen : t.codeLen = totalLength (sourceLines source) := ht ▸ rfl
  have stand : LinesStand t (s.labels source) (s.placed source) :=
    fun p placed bytes notBlank line j b byte => ht ▸ encodes.peek_line _ placed notBlank line byte
  have records := walk_lines (params ▸ legal) encodes stand (Nat.le_refl _)
  rw [start, codeLen, symbols, State.disassembly, Nat.add_sub_cancel_left]
  exact records

end Sys2Proof.Machine
end

section
/-! PROOF. Batches (48_host_operations.md R243): everything the loop of `multiStep` can do, the trace of core steps that
stands behind the count it returns, that it splits anywhere (70_reset_and_hazards.md R362), and `stop()` (R244, R245). -/

namespace Sys2Proof.Machine

/-! ## What the loop can do -/

/-- The stop request that a listener makes in a core step that leads from `s` to `v` (log 8). -/
def stopsDuring (listenerStops : Bool) (s v : State) : Bool :=
  listenerStops && decide (s.runState = .running) && (v.events.drop s.events.length).any Event.beforeEnd

/-- A core step of a batch changes the stop request alone. -/
theorem stepHeard_eq (listenerStops : Bool) (s : State) :
    stepHeard listenerStops s =
      { afterStep s with
        stopRequested := (afterStep s).stopRequested || stopsDuring listenerStops s (afterStep s) } := by
  simp only [stepHeard, stopsDuring]
  split
  next heard => rw [heard, Bool.or_true]
  next unheard => rw [Bool.eq_false_iff.2 unheard, Bool.or_false]

/-- `BatchStep` for a core step that does not execute an instruction to its normal end. -/
theorem batchStep_stepHeard {listenerStops : Bool} {s : State} (go : s.stopRequested = false) (free : ¬ s.AtBreakpoint)
    (other : (stepHeard listenerStops s).lastResult ≠ .executed) :
    BatchStep listenerStops s (stepHeard listenerStops s) := by
  rw [stepHeard_eq] at other ⊢
  exact ⟨go, free, _, step_afterStep s, by rw [if_neg other]; rfl⟩

/-- `BatchStep` for a core step that does. -/
theorem batchStep_of_executed {listenerStops : Bool} {s : State} (go : s.stopRequested = false) (free : ¬ s.AtBreakpoint)
    (executed : (stepHeard listenerStops s).lastResult = .executed) :
    BatchStep listenerStops s { stepHeard listenerStops s with breakLatch := none } := by
  rw [stepHeard_eq] at executed ⊢
  exact ⟨go, free, _, step_afterStep s, by rw [if_pos executed]; rfl⟩

/-- The runs of the loop of `multiStep`, with the budget, the listeners' behaviour, the state it starts in, and the count
and the state it answers. -/
inductive BatchRuns : Nat → List Bool → State → Nat × State → Prop where
  | budget (stops : List Bool) (s : State) : BatchRuns 0 stops s (0, s)
  | stop {left : Nat} {stops : List Bool} {s : State} : s.stopRequested = true → BatchRuns (left + 1) stops s (0, s)
  | breakpoint {left : Nat} {stops : List Bool} {s : State} : s.stopRequested = false → s.AtBreakpoint →
      BatchRuns (left + 1) stops s (0, { s with breakLatch := some s.pc, breakpointHit := true })
  | executed {left : Nat} {stops : List Bool} {s t : State} {r : Nat × State} : BatchStep (stops.headD false) s t →
      t.lastResult = .executed → BatchRuns left stops.tail t r → BatchRuns (left + 1) stops s (r.1 + 1, r.2)
  | halted {left : Nat} {stops : List Bool} {s t : State} : BatchStep (stops.headD false) s t →
      t.lastResult = .halted true → BatchRuns (left + 1) stops s (1, t)
  | ended {left : Nat} {stops : List Bool} {s t : State} : BatchStep (stops.headD false) s t →
      t.lastResult ≠ .executed → t.lastResult ≠ .halted true → BatchRuns (left + 1) stops s (0, t)

/-- The loop's test for a breakpoint (R243). -/
theorem State.atBreakpoint_iff {s : State} :
    s.AtBreakpoint ↔ s.params.breakpoints.contains s.pc = true ∧ s.breakLatch ≠ some s.pc := by
  rw [State.AtBreakpoint, List.contains_iff_mem]

/-- Everything the loop of `multiStep` can do. -/
theorem batchLoop_runs (budget : Nat) (stops : List Bool) (s : State) :
    BatchRuns budget stops s (batchLoop budget stops s) := by
  induction budget generalizing stops s with
  | zero => exact .budget stops s
  | succ left ih =>
    simp only [batchLoop]
    split
    next requested => exact .stop requested
    next unrequested =>
      have go := Bool.eq_false_iff.2 unrequested
      split
      next atBreakpoint => exact .breakpoint go (State.atBreakpoint_iff.2 atBreakpoint)
      next passed =>
        have free := mt State.atBreakpoint_iff.1 passed
        split
        next executed => exact .executed (batchStep_of_executed go free executed) executed (ih _ _)
        next halted => exact .halted (batchStep_stepHeard go free (by rw [halted]; decide)) halted
        next other notHalted => exact .ended (batchStep_stepHeard go free other) other notHalted

/-! ## Splitting a batch -/

/-- One instruction of a batch executes and completes normally (R243). -/
theorem batchLoop_of_executed {left : Nat} {stops : List Bool} {s : State} (go : s.stopRequested = false)
    (free : ¬ s.AtBreakpoint) (executed : (stepHeard (stops.headD false) s).lastResult = .executed) :
    batchLoop (left + 1) stops s =
      ((batchLoop left stops.tail { stepHeard (stops.headD false) s with breakLatch := none }).1 + 1,
        (batchLoop left stops.tail { stepHeard (stops.headD false) s with breakLatch := none }).2) := by
  rw [State.atBreakpoint_iff] at free
  rw [batchLoop, if_neg (Bool.eq_false_iff.1 go), if_neg free]
  simp only [executed]

/-- Where a batch counts an instruction and its last one completed normally, so did its first. -/
theorem executed_of_batchLoop {left n : Nat} {stops : List Bool} {s t : State}
    (h : batchLoop (left + 1) stops s = (n + 1, t)) (last : t.lastResult = .executed) :
    s.stopRequested = false ∧ ¬ s.AtBreakpoint ∧ (stepHeard (stops.headD false) s).lastResult = .executed := by
  simp only [batchLoop] at h
  split at h
  · cases h
  next unrequested =>
    split at h
    · cases h
    next passed =>
      split at h
      next executed => exact ⟨Bool.eq_false_iff.2 unrequested, mt State.atBreakpoint_iff.1 passed, executed⟩
      next halted =>
        cases h
        cases halted.symm.trans last
      · cases h

/-- Settles O53, by induction on the first batch. -/
theorem batchesSplitAnywhere : Obligations.BatchesSplitAnywhere := by
  intro m
  induction m with
  | zero =>
    intro n stops s t h _
    cases h
    simp
  | succ m ih =>
    intro n stops s t h last
    have last : t.lastResult = .executed := last.resolve_left (Nat.succ_ne_zero m)
    obtain ⟨go, free, executed⟩ := executed_of_batchLoop h last
    have first (left : Nat) := batchLoop_of_executed (left := left) go free executed
    rw [first, Prod.mk.injEq, Nat.add_right_cancel_iff] at h
    have rest := ih n _ _ t (Prod.ext h.1 h.2) (.inr last)
    rw [Nat.add_right_comm, first, rest, List.drop_tail, Nat.add_right_comm]

/-! ## The trace behind the count -/

/-- The states `u 0`, `u 1` to `u r.1` that a batch from `s` goes through to answer `r` (R243). -/
structure BatchTrace (stops : List Bool) (budget : Nat) (s : State) (r : Nat × State) (u : Nat → State) : Prop where
  start : u 0 = s
  count : r.1 ≤ budget
  steps : ∀ k, k < r.1 → BatchStep (stops.getD k false) (u k) (u (k + 1))
  results : ∀ k, k < r.1 → (u (k + 1)).lastResult = .executed ∨
    (k + 1 = r.1 ∧ (u r.1).lastResult = .halted true ∧ r.2 = u r.1)
  ends : BatchEnds stops budget r.1 (u r.1) r.2

/-- A state before a sequence of states. -/
def stateBefore (s : State) (u : Nat → State) : Nat → State
  | 0 => s
  | k + 1 => u k

/-- A batch in which nothing executes. -/
theorem BatchTrace.none {stops : List Bool} {budget : Nat} {s t : State} (ends : BatchEnds stops budget 0 s t) :
    BatchTrace stops budget s (0, t) (fun _ => s) :=
  ⟨rfl, Nat.zero_le budget, fun k h => absurd h k.not_lt_zero, fun k h => absurd h k.not_lt_zero, ends⟩

theorem BatchEnds.after_step {stops : List Bool} {budget n : Nat} {u w : State}
    (h : BatchEnds stops.tail budget n u w) : BatchEnds stops (budget + 1) (n + 1) u w := by
  cases h with
  | budget all => exact .budget (congrArg (· + 1) all)
  | halt _ halted => exact .halt (Nat.le_add_left 1 n) halted
  | stop requested => exact .stop requested
  | breakpoint go atBreakpoint => exact .breakpoint go atBreakpoint
  | step w taken other notHalted =>
    refine .step w ?_ other notHalted
    cases stops <;> exact taken

/-- An instruction that executes and completes normally, before a batch. -/
theorem BatchTrace.after_step {stops : List Bool} {budget : Nat} {s t : State} {r : Nat × State} {u : Nat → State}
    (first : BatchStep (stops.headD false) s t) (executed : t.lastResult = .executed)
    (h : BatchTrace stops.tail budget t r u) :
    BatchTrace stops (budget + 1) s (r.1 + 1, r.2) (stateBefore s u) := by
  obtain rfl := h.start
  refine ⟨rfl, Nat.succ_le_succ h.count, fun k lt => ?_, fun k lt => ?_, h.ends.after_step⟩
  · cases k with
    | zero => cases stops <;> exact first
    | succ k => cases stops <;> exact h.steps k (Nat.lt_of_succ_lt_succ lt)
  · cases k with
    | zero => exact .inl executed
    | succ k => exact (h.results k (Nat.lt_of_succ_lt_succ lt)).imp_right (fun last => ⟨congrArg (· + 1) last.1, last.2⟩)

/-- A batch whose first instruction executes and halts. -/
theorem BatchTrace.of_halt {stops : List Bool} {budget : Nat} {s t : State} (first : BatchStep (stops.headD false) s t)
    (halted : t.lastResult = .halted true) : BatchTrace stops (budget + 1) s (1, t) (stateBefore s (fun _ => t)) := by
  refine ⟨rfl, Nat.le_add_left 1 budget, fun k lt => ?_, fun k lt => ?_, .halt (Nat.le_refl 1) halted⟩
  · cases Nat.lt_one_iff.1 lt
    cases stops <;> exact first
  · cases Nat.lt_one_iff.1 lt
    exact .inr ⟨rfl, halted, rfl⟩

theorem BatchRuns.trace {stops : List Bool} {budget : Nat} {s : State} {r : Nat × State}
    (h : BatchRuns budget stops s r) : ∃ u, BatchTrace stops budget s r u := by
  induction h with
  | budget => exact ⟨_, .none (.budget rfl)⟩
  | stop requested => exact ⟨_, .none (.stop requested)⟩
  | breakpoint go atBreakpoint => exact ⟨_, .none (.breakpoint go atBreakpoint)⟩
  | executed first executed _ ih =>
    obtain ⟨u, rest⟩ := ih
    exact ⟨_, .after_step first executed rest⟩
  | halted first halted => exact ⟨_, .of_halt first halted⟩
  | @ended _ stops _ t first other notHalted =>
    refine ⟨_, .none (.step t ?_ other notHalted)⟩
    cases stops <;> exact first

/-! ## multiStep -/

/-- The state in which a batch runs: DebuggingPaused becomes Debugging (R243). -/
def State.enterDebugging (s : State) : State :=
  if s.runState = .debuggingPaused then s.setRunState .debugging else s

theorem State.leaveDebugging_eq (s : State) :
    s.leaveDebugging = { s with runState := if s.runState = .debugging then .debuggingPaused else s.runState } := by
  simp only [State.leaveDebugging]
  split <;> rfl

/-- R243: a batch that is accepted. -/
theorem multiStep_of_accepted {s : State} (stops : List Bool) (budget : Nat)
    (accepted : s.runState = .running ∨ (s.runState = .debuggingPaused ∧ s.debuggerEnabled = true)) :
    multiStep stops budget s =
      (.count (batchLoop budget stops s.enterDebugging).1,
        (batchLoop budget stops s.enterDebugging).2.leaveDebugging.emit .multistep) := if_pos accepted

section
variable {s : State} (accepted : s.runState = .running ∨ s.runState = .debuggingPaused)
include accepted

theorem State.enterDebugging_eq :
    s.enterDebugging = { s with runState := if s.runState = .running then .running else .debugging } := by
  obtain running | paused := accepted
  · rw [State.enterDebugging, if_neg (by simp [running]), if_pos running, ← running]
  · rw [State.enterDebugging, if_pos paused, if_neg (by simp [paused])]
    rfl

theorem State.leaveDebugging_enterDebugging : s.enterDebugging.leaveDebugging = s := by
  obtain running | paused := accepted
  · rw [State.enterDebugging, if_neg (by simp [running]), State.leaveDebugging, if_neg (by simp [running])]
  · rw [State.enterDebugging, if_pos paused, State.leaveDebugging, if_pos (s.setRunState_runState _), State.setRunState,
      State.setRunState, ← paused]

end

/-- A batch that nothing can execute in: no budget, or a stop request (R243). -/
theorem batchLoop_of_budget_or_stop {budget : Nat} {s : State} (stops : List Bool)
    (h : budget = 0 ∨ s.stopRequested = true) : batchLoop budget stops s = (0, s) := by
  cases budget with
  | zero => rfl
  | succ left => exact if_pos (h.resolve_left (Nat.succ_ne_zero left))

theorem State.enterDebugging_stopRequested (s : State) : s.enterDebugging.stopRequested = s.stopRequested := by
  simp only [State.enterDebugging]
  split <;> rfl

/-- Settles O52: the trace of the loop, between `enterDebugging` and `leaveDebugging`. -/
theorem multiStepKeepsItsBudget : Obligations.MultiStepKeepsItsBudget := by
  intro s stops budget accepted
  have inBatch : s.runState = .running ∨ s.runState = .debuggingPaused := accepted.imp_right And.left
  obtain ⟨u, trace⟩ := (batchLoop_runs budget stops s.enterDebugging).trace
  refine ⟨_, _, (batchLoop budget stops s.enterDebugging).2, u,
    Config.messageText (batchLoop budget stops s.enterDebugging).2.leaveDebugging.events.length,
    multiStep_of_accepted stops budget accepted, trace.count, trace.start.trans (State.enterDebugging_eq inBatch),
    trace.steps, trace.results, trace.ends, by rw [State.leaveDebugging_eq]; rfl, fun idle => ?_⟩
  have empty := batchLoop_of_budget_or_stop stops (idle.imp_right s.enterDebugging_stopRequested.trans)
  rw [empty, State.leaveDebugging_enterDebugging inBatch]
  exact ⟨rfl, rfl⟩

/-- Settles O54: a batch under the stop request answers its state, and the boundary then sees the request. -/
theorem stopTakesEffectAtTheBoundary : Obligations.StopTakesEffectAtTheBoundary := by
  intro s stops size running positive asked
  have asked_eq : asked = { s with stopRequested := true } := if_pos running
  have asked_running : asked.runState = .running := asked_eq ▸ running
  have batch : hostDo (.batch stops size) asked = (.count 0, asked.emit .multistep) := by
    have empty : batchLoop size stops asked.enterDebugging = (0, asked.enterDebugging) :=
      batchLoop_of_budget_or_stop stops (.inr (asked.enterDebugging_stopRequested.trans (asked_eq ▸ rfl)))
    have accepted : hostDo (.batch stops size) asked = multiStep stops size asked := if_pos ⟨asked_running, positive⟩
    rw [accepted, multiStep_of_accepted stops size (.inl asked_running), empty,
      State.leaveDebugging_enterDebugging (.inl asked_running)]
  rw [asked_eq] at batch ⊢
  refine ⟨_, _, _, batch, congrArg (Prod.mk _) ((if_pos running).trans (if_pos rfl)), rfl, rfl, rfl, rfl, rfl, rfl, rfl⟩

end Sys2Proof.Machine
end

section
/-! PROOF. The invariant (10_state.md R26, R27, R34, R36, R41; 60_exceptions.md R320) and the changed stream (20_memory.md
R60), over every step and every host operation. Both follow from one relation, `Moves`, that every state change but
`assemble` has. -/

namespace Sys2Proof.Machine

/-! ## The relation -/

/-- The fields of the assembled program, and the parameters: what only `assemble` writes (10_state.md R36, R41). -/
def State.program (s : State) : Word × Nat × Bool × SymbolTable × Params :=
  (s.codeStart, s.codeLen, s.codeValid, s.symbols, s.params)

/-- A standing fault means Stopped (60_exceptions.md R320). -/
def State.FaultStops (s : State) : Prop := s.fault ≠ none → s.runState = .stopped

theorem State.FaultStops.of_fault_none {s : State} (h : s.fault = none) : s.FaultStops := absurd h

/-- The invariant says of the program fields something of their own, and then only U, B, memory and the fault. -/
theorem State.Inv.of_program {s t : State} (inv : s.Inv) (program : t.program = s.program)
    (status : t.flagU = true ∧ t.flagB = false) (wf : t.mem.wf = true) (faulted : t.FaultStops) : t.Inv := by
  obtain ⟨-, -, -, start, bound, unassembled, once, -⟩ := inv
  simp only [State.program, Prod.mk.injEq] at program
  obtain ⟨codeStart, codeLen, codeValid, symbols, params⟩ := program
  refine ⟨status.1, status.2, wf, ?_, ?_, ?_, ?_, faulted⟩
  · rw [codeStart, params, start]
  · rwa [codeStart, codeLen]
  · rwa [codeValid, codeLen]
  · rwa [symbols]

theorem State.Inv.status {s : State} (inv : s.Inv) : s.flagU = true ∧ s.flagB = false := ⟨inv.1, inv.2.1⟩

theorem State.Inv.wf {s : State} (inv : s.Inv) : s.mem.wf = true := inv.2.2.1

theorem State.Inv.faultStops {s : State} (inv : s.Inv) : s.FaultStops := inv.2.2.2.2.2.2.2

/-- From `s` to `t` the events appended account for memory, and the invariant and the parameters are kept. -/
structure Moves (s t : State) : Prop where
  accounts : Accounts s t
  inv : s.Inv → t.Inv
  params : t.params = s.params

theorem Moves.refl (s : State) : Moves s s := ⟨.refl s, id, rfl⟩

theorem Moves.trans {s t u : State} (h : Moves s t) (g : Moves t u) : Moves s u :=
  ⟨h.accounts.trans g.accounts, g.inv ∘ h.inv, g.params.trans h.params⟩

/-- Changes of registers and control state that keep P, the program and, with it, the fault's meaning. -/
theorem Moves.control {s t : State} (p : t.p = s.p) (mem : t.mem = s.mem) (events : t.events = s.events)
    (program : t.program = s.program) (faulted : s.FaultStops → t.FaultStops) : Moves s t where
  accounts := .quiet events mem
  inv inv := inv.of_program program (by simpa only [State.flagU, State.flagB, p] using inv.status) (mem ▸ inv.wf)
    (faulted inv.faultStops)
  params := congrArg (fun q => q.2.2.2.2) program

theorem Moves.event {s : State} {e : Event} (notChanged : e.write = none) : Moves s (s.addEvent e) :=
  ⟨.event rfl rfl notChanged, id, rfl⟩

theorem Moves.emit (s : State) (n : EngineNote) : Moves s (s.emit n) := ⟨.emit s n, id, rfl⟩

theorem Moves.and_emit {s t : State} (h : Moves s t) (n : EngineNote) : Moves s (t.emit n) := h.trans (.emit t n)

theorem Moves.of_keeps {s t : State} (h : Keeps s t) : Moves s t where
  accounts := h.accounts
  inv inv := inv.of_program (congrArg (fun c : Control => (c.codeStart, c.codeLen, c.codeValid, c.symbols, c.params)) h.control)
    (h.status inv.status) (h.wf inv.wf) (fun standing => (congrArg Control.runState h.control).trans
      (inv.faultStops (mt (congrArg Control.fault h.control).trans standing)))
  params := congrArg Control.params h.control

/-! ## Steps -/

/-- R241: a halt, where no fault stands. -/
theorem Moves.halt {s : State} (fault : s.fault = none) (executed : Bool) : Moves s (s.halt executed) where
  accounts := .halt s executed
  inv inv := inv.of_program rfl inv.status inv.wf (.of_fault_none ((s.halt_fault executed).trans fault))
  params := rfl

/-- R320: a fault leads to Stopped. -/
theorem Moves.raise (s : State) (k : FaultKind) (b : Byte) : Moves s (s.raise k b) where
  accounts := .event (s.raise_events k b) rfl rfl
  inv inv := inv.of_program rfl inv.status inv.wf (fun _ => rfl)
  params := rfl

/-- Every core step. -/
theorem step_moves {s t : State} (h : step s = .next t) : Moves s t := by
  obtain ⟨-, rfl⟩ | ⟨-, fault, -, rfl⟩ | ⟨-, -, -, -, rfl⟩ | ⟨-, fault, -, i, -, ran⟩ := step_cases h
  · exact .control rfl rfl rfl rfl id
  · exact .halt fault false
  · exact .raise s _ _
  · obtain keeps | ⟨u, keeps, rfl⟩ | ⟨-, rfl⟩ := exec_cases ran
    · exact .of_keeps keeps
    · exact (Moves.of_keeps keeps).trans (.halt ((congrArg Control.fault keeps.control).trans fault) true)
    · exact .control rfl rfl rfl rfl id

/-- Settles O47: the invariant is part of `Moves`. -/
theorem stepKeepsTheInvariant : Obligations.StepKeepsTheInvariant := fun _ _ inv h =>
  ⟨(step_moves h).inv inv, (step_moves h).params⟩

/-! ## Host operations -/

/-- A change of the control state from a run state that is not Stopped, in which no fault stands. -/
theorem State.FaultStops.of_not_stopped {s t : State} (notStopped : s.runState ≠ .stopped) (fault : t.fault = s.fault)
    (h : s.FaultStops) : t.FaultStops := fun standing => absurd (h (fault ▸ standing)) notStopped

/-- A core step of a batch. -/
theorem BatchStep.moves {listenerStops : Bool} {s t : State} (h : BatchStep listenerStops s t) : Moves s t := by
  obtain ⟨-, -, v, stepped, rfl⟩ := h
  exact (step_moves stepped).trans (.control rfl rfl rfl rfl id)

/-- The loop of `multiStep`, by induction on its run. -/
theorem BatchRuns.moves {budget : Nat} {stops : List Bool} {s : State} {r : Nat × State}
    (h : BatchRuns budget stops s r) : Moves s r.2 := by
  induction h with
  | budget _ s => exact .refl s
  | stop => exact .refl _
  | breakpoint => exact .control rfl rfl rfl rfl id
  | executed first _ _ ih => exact first.moves.trans ih
  | halted first => exact first.moves
  | ended first => exact first.moves

theorem State.enterDebugging_moves (s : State) : Moves s s.enterDebugging := by
  unfold State.enterDebugging
  split
  next paused => exact .control rfl rfl rfl rfl (.of_not_stopped (by simp [paused]) rfl)
  · exact .refl s

theorem State.leaveDebugging_moves (s : State) : Moves s s.leaveDebugging := by
  unfold State.leaveDebugging
  split
  next debugging => exact .control rfl rfl rfl rfl (.of_not_stopped (by simp [debugging]) rfl)
  · exact .refl s

theorem State.leaveDebugging_runState_ne (s : State) : s.leaveDebugging.runState ≠ .debugging := by
  unfold State.leaveDebugging
  split
  · simp
  next notDebugging => exact notDebugging

/-- What the operations share: `Moves`, and that Debugging stands only within one (R35). -/
structure HostMoves (s t : State) : Prop extends Moves s t where
  leaves : s.runState ≠ .debugging → t.runState ≠ .debugging

theorem HostMoves.refl (s : State) : HostMoves s s := ⟨.refl s, id⟩

/-- The end of a debug step or batch (R243, R248). -/
theorem HostMoves.of_leaveDebugging {s t : State} (h : Moves s t) (n : EngineNote) :
    HostMoves s (t.leaveDebugging.emit n) :=
  ⟨(h.trans t.leaveDebugging_moves).and_emit n, fun _ => t.leaveDebugging_runState_ne⟩

theorem multiStep_moves (stops : List Bool) (budget : Nat) (s : State) : HostMoves s (multiStep stops budget s).2 := by
  by_cases accepted : s.runState = .running ∨ (s.runState = .debuggingPaused ∧ s.debuggerEnabled = true)
  · rw [multiStep_of_accepted stops budget accepted]
    exact .of_leaveDebugging (s.enterDebugging_moves.trans (batchLoop_runs budget stops _).moves) .multistep
  · rw [multiStep, if_neg accepted]
    exact .refl s

theorem hostStep_moves (s : State) : HostMoves s (hostStep s).2 := by
  unfold hostStep
  split
  next paused =>
    have entered : Moves s (s.setRunState .debugging) :=
      .control rfl rfl rfl rfl (.of_not_stopped (by simp [paused]) rfl)
    refine .of_leaveDebugging ((entered.trans (step_moves (step_afterStep _))).trans ?_) .step
    split
    · exact .control rfl rfl rfl rfl id
    · exact .refl _
  · exact .refl s

theorem hostReset_moves (s : State) : HostMoves s (hostReset s).2 := by
  unfold hostReset
  split
  · exact .refl s
  · refine ⟨⟨.event rfl rfl rfl, fun inv => ?_, rfl⟩, fun _ => ?_⟩
    · have flags := State.flags_of_p_reset (s := s.resetRegisters) rfl
      exact inv.of_program rfl ⟨congrArg Flags.u flags, congrArg Flags.b flags⟩ inv.wf (.of_fault_none rfl)
    · rw [State.emit_runState, State.setRunState_runState]
      split <;> decide

theorem hostGoto_moves (a : Word) (s : State) : HostMoves s (hostGoto a s).2 := by
  unfold hostGoto
  split
  · refine ⟨.and_emit ?_ .goto, id⟩
    exact .control rfl rfl rfl rfl id
  · exact .refl s

theorem hostRun_moves (s : State) : HostMoves s (hostRun s).2 := by
  unfold hostRun
  split
  next ready =>
    refine ⟨.and_emit ?_ .start, fun _ => by simp⟩
    exact .control rfl rfl rfl rfl (.of_not_stopped (by simp [ready]) rfl)
  · exact .refl s

theorem hostStop_moves (s : State) : HostMoves s (hostStop s) := by
  unfold hostStop
  split
  · exact ⟨.control rfl rfl rfl rfl id, id⟩
  · exact .refl s

theorem runBoundary_moves (s : State) : HostMoves s (runBoundary s) := by
  unfold runBoundary
  split
  next running =>
    have notStopped : s.runState ≠ .stopped := by simp [running]
    split
    · refine ⟨.and_emit ?_ .stop, fun _ => by simp⟩
      exact .control rfl rfl rfl rfl (fun _ _ => rfl)
    · split
      · exact ⟨.control rfl rfl rfl rfl (.of_not_stopped notStopped rfl), fun _ => by simp⟩
      · exact .refl s
  · exact .refl s

theorem hostEnableDebugger_moves (s : State) : HostMoves s (hostEnableDebugger s).2 := by
  unfold hostEnableDebugger
  split
  next ready => exact ⟨.control rfl rfl rfl rfl (.of_not_stopped (by simp [ready]) rfl), fun _ => by simp⟩
  · split
    · exact ⟨.control rfl rfl rfl rfl id, id⟩
    · exact .refl s

theorem hostDisableDebugger_moves (s : State) : HostMoves s (hostDisableDebugger s).2 := by
  unfold hostDisableDebugger
  split
  next paused => exact ⟨.control rfl rfl rfl rfl (.of_not_stopped (by simp [paused]) rfl), fun _ => by simp⟩
  · exact .refl s

theorem hostWrite_moves (a : Word) (v : Nat) (s : State) : HostMoves s (hostWrite a v s).2 := by
  unfold hostWrite
  split
  · exact ⟨.of_keeps (.poke s a _), id⟩
  · exact .refl s

/-- Every host operation but `assemble`. -/
theorem hostDo_moves {act : HostAction} (notAssemble : ∀ source, act ≠ .assemble source) (s : State) :
    HostMoves s (hostDo act s).2 := by
  cases act with
  | assemble source => exact absurd rfl (notAssemble source)
  | reset => exact hostReset_moves s
  | run => exact hostRun_moves s
  | batch stops size =>
    simp only [hostDo]
    split
    · exact multiStep_moves stops size s
    · exact .refl s
  | boundary => exact runBoundary_moves s
  | stop => exact hostStop_moves s
  | step => exact hostStep_moves s
  | multiStep stops budget => exact multiStep_moves stops budget s
  | goto a => exact hostGoto_moves a s
  | enableDebugger => exact hostEnableDebugger_moves s
  | disableDebugger => exact hostDisableDebugger_moves s
  | write a v => exact hostWrite_moves a v s
  | disassemble range =>
    obtain ⟨records, answer⟩ := hostDo_disassemble_adds_one_event range s
    exact answer ▸ ⟨.event rfl, id⟩
  | hexdump range =>
    obtain ⟨text, answer⟩ := hostDo_hexdump_adds_one_event range s
    exact answer ▸ ⟨.event rfl, id⟩

/-- Settles O40: the account of memory is part of `Moves`. -/
theorem changedStreamAccountsForMemory : Obligations.ChangedStreamAccountsForMemory := fun s =>
  ⟨fun _ h => (step_moves h).accounts, fun _ notAssemble => (hostDo_moves notAssemble s).accounts⟩

/-! ## assemble -/

/-- What `assemble` leaves meets the invariant, whatever was before: the reset values, memory in canonical form, and a
program that is empty or has been assembled. -/
theorem hostInv_of_resetBy {s t : State} (reset : ResetBy s t) (params : t.params = s.params) (wf : t.mem.wf = true)
    (bound : s.params.origin.toNat + t.codeLen ≤ 65536) (unassembled : t.codeValid = false → t.codeLen = 0)
    (once : (t.symbols.map Prod.fst).Nodup) (notDebugging : t.runState ≠ .debugging) : t.HostInv := by
  obtain ⟨-, flags, fault, -, start⟩ := reset
  exact ⟨⟨congrArg Flags.u flags, congrArg Flags.b flags, wf, start.trans (congrArg Params.origin params).symm,
    start ▸ bound, unassembled, once, State.FaultStops.of_fault_none fault⟩, notDebugging⟩

/-- R280: memory during pass 2. -/
theorem State.withLabels_writeAll_wf (s : State) (table : SymbolTable) (writes : List (Word × Byte)) :
    ((s.withLabels table).writeAll writes).mem.wf = true := ((s.withLabels table).writeAll_keeps writes).wf rfl

/-- R283: the three ends of `assemble_cases`. -/
theorem hostInv_assemble (source : Text) {s : State} (accepted : s.runState ≠ .running) :
    (assemble source s).2.HostInv ∧ (assemble source s).2.params = s.params := by
  have start : s.params.origin.toNat + 0 ≤ 65536 := Nat.le_of_lt s.params.origin.isLt
  obtain ⟨fit, encodes, result⟩ | ⟨-, -, e, writes, result⟩ | ⟨-, e, result⟩ := assemble_cases source accepted
  · generalize (s.placed source).flatMap (lineWrites (s.labels source)) = writes at result
    have control := (s.withLabels (s.labels source)).writeAll_control writes
    have params : (s.afterSuccess (s.labels source) writes (totalLength (sourceLines source))).params = s.params :=
      congrArg Control.params control
    have symbols : (s.afterSuccess (s.labels source) writes (totalLength (sourceLines source))).symbols = s.labels source :=
      congrArg Control.symbols control
    rw [result]
    exact ⟨hostInv_of_resetBy (ResetBy.writeAll s _ _) params (s.withLabels_writeAll_wf _ _) encodes.end_le
      Bool.noConfusion (symbols.symm ▸ fit.2) RunState.noConfusion, params⟩
  · have control := (s.withLabels (s.labels source)).writeAll_control writes
    have params : (s.afterPass2Failure (s.labels source) writes e).params = s.params := congrArg Control.params control
    have codeLen : (s.afterPass2Failure (s.labels source) writes e).codeLen = 0 := congrArg Control.codeLen control
    rw [result]
    exact ⟨hostInv_of_resetBy (ResetBy.writeAll s _ _) params (s.withLabels_writeAll_wf _ _) (codeLen ▸ start)
      (fun _ => codeLen) List.nodup_nil RunState.noConfusion, params⟩
  · rw [result]
    exact ⟨hostInv_of_resetBy (.pass1Failure s e) rfl rfl start (fun _ => rfl) List.nodup_nil RunState.noConfusion, rfl⟩

/-- The state that the operation `assemble` leaves. -/
theorem hostDo_assemble_state (source : Text) (s : State) : (hostDo (.assemble source) s).2 = (assemble source s).2 := by
  simp only [hostDo]
  split
  next answer => rw [answer]
  next answer => rw [answer]

/-- Settles O48: `HostMoves` for every operation but `assemble`, and for `assemble` what it leaves. -/
theorem hostOperationsKeepTheInvariant : Obligations.HostOperationsKeepTheInvariant := by
  intro act s hostInv
  obtain ⟨inv, notDebugging⟩ := hostInv
  by_cases assembles : ∃ source, act = .assemble source
  · obtain ⟨source, rfl⟩ := assembles
    rw [hostDo_assemble_state]
    by_cases running : s.runState = .running
    · rw [assemble, if_pos running]
      exact ⟨⟨inv, notDebugging⟩, rfl⟩
    · exact hostInv_assemble source running
  · have moves := hostDo_moves (not_exists.1 assembles) s
    exact ⟨⟨moves.inv inv, moves.leaves notDebugging⟩, moves.params⟩

end Sys2Proof.Machine
end

section
/-! PROOF. The host operations (48_host_operations.md R244 to R249, 70_reset_and_hazards.md R351, R352): when each is
rejected, and where an accepted one leads. -/

namespace Sys2Proof.Machine

/-! ## Rejection -/

/-- A host operation on `s` that is accepted exactly where `allowed` holds, and that changes nothing where it is rejected
(R249). -/
structure RejectsUnless (allowed : Prop) (s : State) (result : Reply × State) : Prop where
  accepted : allowed → result.1 ≠ .rejected
  rejected : ¬ allowed → result = (.rejected, s)

section
variable {allowed : Prop} {s : State} {result : Reply × State}

theorem RejectsUnless.rejected_iff (h : RejectsUnless allowed s result) : result.1 = .rejected ↔ ¬ allowed :=
  ⟨fun rejected allow => h.accepted allow rejected, fun forbidden => congrArg Prod.fst (h.rejected forbidden)⟩

theorem RejectsUnless.eq_of_rejected (h : RejectsUnless allowed s result) {t : State} (rejected : result = (.rejected, t)) :
    t = s := by
  have forbidden := h.rejected_iff.1 (congrArg Prod.fst rejected)
  cases rejected.symm.trans (h.rejected forbidden)
  rfl

/-- The shape of an operation with one precondition. -/
theorem RejectsUnless.ite [Decidable allowed] (notRejected : allowed → result.1 ≠ .rejected) :
    RejectsUnless allowed s (if allowed then result else (.rejected, s)) :=
  ⟨fun allow => by rw [if_pos allow]; exact notRejected allow, fun forbidden => if_neg forbidden⟩

/-- An operation that is never rejected. -/
theorem RejectsUnless.of_done (done : result.1 = .done) : RejectsUnless True s result :=
  ⟨fun _ => by simp [done], fun forbidden => absurd trivial forbidden⟩

end

section
variable (s : State)

theorem hostReset_rejectsUnless : RejectsUnless (s.runState ≠ .running) s (hostReset s) where
  accepted notRunning := by simp [hostReset, notRunning]
  rejected running := if_pos (Decidable.not_not.1 running)

theorem assemble_rejectsUnless (source : Text) :
    RejectsUnless (s.runState ≠ .running) s (hostDo (.assemble source) s) where
  accepted notRunning := by
    obtain ⟨-, -, result⟩ | ⟨-, -, _, _, result⟩ | ⟨-, _, result⟩ := assemble_cases source notRunning <;>
      simp [hostDo, result]
  rejected running := by simp [hostDo, assemble, Decidable.not_not.1 running]

theorem hostEnableDebugger_rejectsUnless :
    RejectsUnless (s.runState = .ready ∨ s.runState = .running) s (hostEnableDebugger s) where
  accepted allowed := by
    obtain ready | running := allowed
    · simp [hostEnableDebugger, ready]
    · simp [hostEnableDebugger, running]
  rejected forbidden := by
    obtain ⟨notReady, notRunning⟩ := not_or.1 forbidden
    rw [hostEnableDebugger, if_neg notReady, if_neg notRunning]

theorem multiStep_rejectsUnless (stops : List Bool) (budget : Nat) :
    RejectsUnless (s.runState = .running ∨ (s.runState = .debuggingPaused ∧ s.debuggerEnabled = true)) s
      (multiStep stops budget s) := .ite fun _ => by simp

theorem batch_rejectsUnless (stops : List Bool) (size : Nat) :
    RejectsUnless (s.runState = .running ∧ 1 ≤ size) s (hostDo (.batch stops size) s) :=
  .ite fun allowed => (multiStep_rejectsUnless s stops size).accepted (.inl allowed.1)

theorem hostWrite_rejectsUnless (a : Word) (v : Nat) :
    RejectsUnless (a ∈ s.params.hostInputAddrs) s (hostWrite a v s) := by
  rw [← List.contains_iff_mem]
  exact .ite fun _ => by simp

theorem hostRun_rejectsUnless : RejectsUnless (s.runState = .ready) s (hostRun s) := .ite fun _ => by simp

theorem hostStep_rejectsUnless : RejectsUnless (s.runState = .debuggingPaused) s (hostStep s) := .ite fun _ => by simp

theorem hostGoto_rejectsUnless (a : Word) :
    RejectsUnless (s.runState = .ready ∨ s.runState = .debuggingPaused ∨ s.runState = .stopped) s (hostGoto a s) :=
  .ite fun _ => by simp

theorem hostDisableDebugger_rejectsUnless :
    RejectsUnless (s.runState = .debuggingPaused) s (hostDisableDebugger s) := .ite fun _ => by simp

theorem disassemble_rejectsUnless (range : Option (Nat × Nat)) : RejectsUnless True s (hostDo (.disassemble range) s) := by
  obtain ⟨records, answer⟩ := hostDo_disassemble_adds_one_event range s
  exact .of_done (congrArg Prod.fst answer)

theorem hexdump_rejectsUnless (range : Option (Nat × Nat)) : RejectsUnless True s (hostDo (.hexdump range) s) := by
  obtain ⟨text, answer⟩ := hostDo_hexdump_adds_one_event range s
  exact .of_done (congrArg Prod.fst answer)

end

/-- Each operation has a precondition (R244, R249; log 18 for the input writes). -/
theorem hostDo_rejectsUnless (act : HostAction) (s : State) : ∃ allowed, RejectsUnless allowed s (hostDo act s) := by
  cases act with
  | assemble source => exact ⟨_, assemble_rejectsUnless s source⟩
  | reset => exact ⟨_, hostReset_rejectsUnless s⟩
  | run => exact ⟨_, hostRun_rejectsUnless s⟩
  | batch stops size => exact ⟨_, batch_rejectsUnless s stops size⟩
  | boundary => exact ⟨_, .of_done rfl⟩
  | stop => exact ⟨_, .of_done rfl⟩
  | step => exact ⟨_, hostStep_rejectsUnless s⟩
  | multiStep stops budget => exact ⟨_, multiStep_rejectsUnless s stops budget⟩
  | goto a => exact ⟨_, hostGoto_rejectsUnless s a⟩
  | enableDebugger => exact ⟨_, hostEnableDebugger_rejectsUnless s⟩
  | disableDebugger => exact ⟨_, hostDisableDebugger_rejectsUnless s⟩
  | write a v => exact ⟨_, hostWrite_rejectsUnless s a v⟩
  | disassemble range => exact ⟨_, disassemble_rejectsUnless s range⟩
  | hexdump range => exact ⟨_, hexdump_rejectsUnless s range⟩

/-- Settles O49: a rejected operation answers its own state. -/
theorem rejectedOperationsChangeNothing : Obligations.RejectedOperationsChangeNothing := by
  intro act s t rejected
  obtain ⟨_, result⟩ := hostDo_rejectsUnless act s
  exact result.eq_of_rejected rejected

/-- Settles O50: the precondition of each operation, negated. -/
theorem hostPreconditionsAreTheTable : Obligations.HostPreconditionsAreTheTable := by
  intro s source stops n v a range
  obtain ⟨_, disassembled⟩ := hostDo_disassemble_adds_one_event range s
  obtain ⟨_, dumped⟩ := hostDo_hexdump_adds_one_event range s
  refine ⟨(assemble_rejectsUnless s source).rejected_iff.trans Decidable.not_not,
    (hostReset_rejectsUnless s).rejected_iff.trans Decidable.not_not, (hostRun_rejectsUnless s).rejected_iff,
    (hostStep_rejectsUnless s).rejected_iff, (multiStep_rejectsUnless s stops n).rejected_iff,
    (hostGoto_rejectsUnless s a).rejected_iff.trans ?_, (hostEnableDebugger_rejectsUnless s).rejected_iff.trans not_or,
    (hostDisableDebugger_rejectsUnless s).rejected_iff, (hostWrite_rejectsUnless s a v).rejected_iff,
    (batch_rejectsUnless s stops n).rejected_iff.trans ?_, rfl, rfl,
    congrArg Prod.fst disassembled, congrArg Prod.fst dumped⟩
  · rw [not_or, not_or]
  · rw [Decidable.not_and_iff_not_or_not, Nat.not_le, Nat.lt_one_iff]

/-! ## reset -/

/-- The state that `reset()` leads to (R351). -/
def State.afterReset (s : State) : State :=
  (s.resetRegisters.setRunState (if s.codeValid then .ready else .initialized)).emit .reset

theorem hostReset_of_accepted {s : State} (accepted : s.runState ≠ .running) : hostReset s = (.done, s.afterReset) :=
  if_neg accepted

theorem State.afterReset_runState_ne (s : State) : s.afterReset.runState ≠ .running := by
  rw [State.afterReset, State.emit_runState, State.setRunState_runState]
  split <;> decide

/-- R352: a second reset adds its event. -/
theorem State.afterReset_afterReset (s : State) :
    s.afterReset.afterReset =
      { s.afterReset with
        events := s.afterReset.events ++
          [.engine .reset s.afterReset.snapshot (Config.messageText s.afterReset.events.length)] } := rfl

/-- Settles O51: `State.afterReset`, field by field, and twice. -/
theorem resetOperationLeavesTheProgram : Obligations.ResetOperationLeavesTheProgram := by
  intro s accepted
  exact ⟨s.afterReset, Config.messageText s.events.length, hostReset_of_accepted accepted, rfl,
    State.flags_of_p_reset rfl, rfl, rfl, rfl, _,
    (hostReset_of_accepted s.afterReset_runState_ne).trans (congrArg _ s.afterReset_afterReset), rfl⟩

/-! ## Where the accepted operations lead -/

/-- R245: `stop()`, in any run state. -/
theorem hostStop_eq (s : State) :
    hostStop s = { s with stopRequested := s.stopRequested || decide (s.runState = .running) } := by
  unfold hostStop
  split
  next running => simp [running]
  next notRunning => simp [notRunning]

/-- R248: the break latch after a core step. -/
theorem clearLatch_eq (t : State) :
    (if t.lastResult = .executed then { t with breakLatch := none } else t) =
      { t with breakLatch := if t.lastResult = .executed then none else t.breakLatch } := by
  split <;> rfl

/-- R248: the state of `step()` after its core step has led to `t`. -/
def State.afterHostStep (t : State) : State :=
  State.emit { t with
    breakLatch := if t.lastResult = .executed then none else t.breakLatch
    runState := if t.runState = .debugging then .debuggingPaused else t.runState } .step

/-- R248. -/
theorem hostStep_of_paused {s : State} (paused : s.runState = .debuggingPaused) :
    hostStep s = (.stepped (afterStep (s.setRunState .debugging)).lastResult,
      (afterStep (s.setRunState .debugging)).afterHostStep) := by
  simp only [hostStep, if_pos paused, clearLatch_eq, State.leaveDebugging_eq, State.afterHostStep]

/-- R248: `step()` ends in DebuggingPaused, Completed or Stopped. -/
theorem State.afterHostStep_runState {s t : State} (stepped : step (s.setRunState .debugging) = .next t) :
    t.afterHostStep.runState = .debuggingPaused ∨ t.afterHostStep.runState = .completed ∨
      t.afterHostStep.runState = .stopped := by
  have runState : t.afterHostStep.runState = if t.runState = .debugging then .debuggingPaused else t.runState := rfl
  rw [runState]
  obtain debugging | completed | stopped := step_runState stepped
  · exact .inl (if_pos debugging)
  · exact .inr (.inl (by simp [completed]))
  · exact .inr (.inr (by simp [stopped]))

/-- R244: the batch boundary. -/
theorem runBoundary_of_stop {s : State} (running : s.runState = .running) (requested : s.stopRequested = true) :
    runBoundary s = { s with runState := .stopped, stopRequested := false }.emit .stop := by
  rw [runBoundary, if_pos running, if_pos requested]

theorem runBoundary_of_breakpoint {s : State} (running : s.runState = .running) (unrequested : s.stopRequested = false)
    (hit : s.breakpointHit = true) :
    runBoundary s = { s with runState := .debuggingPaused, debuggerEnabled := true, breakpointHit := false } := by
  rw [runBoundary, if_pos running, if_neg (Bool.eq_false_iff.1 unrequested), if_pos hit]

theorem runBoundary_of_nothing {s : State}
    (nothing : s.runState ≠ .running ∨ (s.stopRequested = false ∧ s.breakpointHit = false)) : runBoundary s = s := by
  obtain notRunning | ⟨unrequested, noHit⟩ := nothing
  · exact if_neg notRunning
  · simp [runBoundary, unrequested, noHit]

/-- Settles O60: one clause for each operation and each condition of it. -/
theorem acceptedOperationsLeadWhereTheTableSays : Obligations.AcceptedOperationsLeadWhereTheTableSays := by
  intro s a v
  refine ⟨fun allowed => ⟨Config.messageText s.events.length, if_pos allowed⟩,
    fun ready => ⟨Config.messageText s.events.length, if_pos ready⟩, congrArg _ (hostStop_eq s), fun ready => if_pos ready,
    fun running => ?_, fun running requested => ⟨Config.messageText s.events.length, ?_⟩,
    fun running unrequested hit => congrArg _ (runBoundary_of_breakpoint running unrequested hit),
    fun nothing => congrArg _ (runBoundary_of_nothing nothing), fun paused => if_pos paused, fun paused => ?_,
    fun listed => if_pos (List.contains_iff_mem.2 listed)⟩
  · exact (if_neg (by simp [running])).trans (if_pos running)
  · exact congrArg _ (runBoundary_of_stop running requested)
  · have stepped := step_afterStep (s.setRunState .debugging)
    exact ⟨_, _, Config.messageText (afterStep (s.setRunState .debugging)).events.length, stepped,
      hostStep_of_paused paused, rfl, State.afterHostStep_runState stepped⟩

end Sys2Proof.Machine
end
